-- ==== Sys2Proof/Word.lean ====
section
/-! DEFINITION. The two word types of the machine (00_scope.md R5). -/

namespace Sys2Proof

/-- A byte: the width of A, X, Y, S, of a memory location and of an instruction byte (00_scope.md R5). -/
abbrev Byte := BitVec 8

/-- An address, and the width of the program counter (00_scope.md R5). -/
abbrev Addr := BitVec 16

end Sys2Proof
end

