-- ==== Sys2Proof/Config.lean ====
section
/-! DEFINITION. The values the spec leaves open. Each is an opaque constant: nothing can be proved of its value, so a claim about the
machine holds for every choice (93_implementation_defined.md, treatment "any value" and "parameter"). -/

namespace Sys2Proof

/-- What an addition or a subtraction delivers: the byte and the four flags ADC and SBC write (46_arith_logic.md R220 to R222). -/
structure ArithResult where
  r : Byte
  c : Bool
  n : Bool
  v : Bool
  z : Bool
deriving DecidableEq, Repr, Inhabited

namespace Config

/-- The k-th byte drawn under no law: a read of an `io` or `unmapped` location (20_memory.md R51), a register after a reset entry
(70_reset_and_hazards.md R340). Entries 4 and 5. -/
opaque freeByte : Nat → Byte

/-- The k-th bit drawn under no law: a flag after a reset entry (70_reset_and_hazards.md R340), the choice of `I_poll` after CLI, SEI
and PLP (60_exceptions.md R304). Entries 4 and 9. -/
opaque freeBit : Nat → Bool

/-- `bcd_adc` where the property `BcdValid` says nothing (46_arith_logic.md R220, U2): N, V, Z always, everything when an operand is
not packed BCD. Entry 7. -/
opaque decimalAdc : Byte → Byte → Bool → ArithResult

/-- `bcd_sbc` where the property `BcdValid` says nothing (46_arith_logic.md R220, U2). Entry 7. -/
opaque decimalSbc : Byte → Byte → Bool → ArithResult

end Config

end Sys2Proof
end

