-- ==== Sys2Proof/Machine/Bits.lean ====
section
/-! DEFINITION. Bytes and addresses: the concatenations, slices and extensions of 00_scope.md R7. -/

namespace Sys2Proof

/-- `hi:lo`, the 16-bit value 256*hi + lo (00_scope.md R7). -/
def mkAddr (hi lo : Byte) : Addr := hi ++ lo

/-- Bits 7..0 of an address (00_scope.md R6). -/
def loByte (a : Addr) : Byte := a.extractLsb' 0 8

/-- Bits 15..8 of an address: its page number (00_scope.md R6). -/
def hiByte (a : Addr) : Byte := a.extractLsb' 8 8

/-- `zext_16(v)` (00_scope.md R7). -/
def zext16 (v : Byte) : Addr := v.setWidth 16

/-- `sext_16(v)`: v read as two's complement, mod 65536 (00_scope.md R7). -/
def sext16 (v : Byte) : Addr := v.signExtend 16

/-- `$00 : p`, an address in page zero (20_memory.md R55). -/
def zeroPage (p : Byte) : Addr := mkAddr 0x00#8 p

/-- `$01 : S`, an address in page one (20_memory.md R56, R57). -/
def stackAddr (sp : Byte) : Addr := mkAddr 0x01#8 sp

/-- The address after `a` in the page of `a`: `a[15:8] : (a[7:0] +_8 1)` (20_memory.md R66, `Read16page`). -/
def nextInPage (a : Addr) : Addr := mkAddr (hiByte a) (loByte a + 1)

end Sys2Proof
end

