-- ==== Sys2Proof/Machine/Memory.lean ====
section
/-! DEFINITION. The contents of storage: a list of cells in one canonical form (10_state.md R35, 20_memory.md R50), and the region kinds
of the address map (20_memory.md R51, R59). -/

namespace Sys2Proof.Machine

/-- Storage: the cells whose byte differs from `blank`, by rising address. -/
abbrev Memory := List Host.Cell

/-- What an address that no cell lists reads as. The spec gives RAM at power-up no value (U9). DESIGN CHOICE, unsafe, entry 2. -/
def Memory.blank : Byte := 0x00#8

/-- The size of the address space (20_memory.md R50). -/
def Memory.size : Nat := 65536

/-- The byte at an address. -/
def Memory.read (m : Memory) (k : Nat) : Byte :=
  match m with
  | [] => Memory.blank
  | (a, v) :: r => if a = k then v else Memory.read r k

/-- Puts a cell before the first cell of a higher address. -/
def Memory.insert (m : Memory) (k : Nat) (v : Byte) : Memory :=
  match m with
  | [] => [(k, v)]
  | (a, u) :: r => if k < a then (k, v) :: (a, u) :: r else (a, u) :: Memory.insert r k v

/-- Takes out every cell of an address. -/
def Memory.erase (m : Memory) (k : Nat) : Memory := m.filter fun c => decide (c.1 ≠ k)

/-- Stores a byte. Storing `blank` leaves the address unlisted, so that equal contents are equal lists. -/
def Memory.write (m : Memory) (k : Nat) (v : Byte) : Memory :=
  if v = Memory.blank then m.erase k else (m.erase k).insert k v

/-- The cells' addresses rise strictly from `lo` on and are addresses of the machine, and no cell is `blank`. -/
def Memory.wfFrom (lo : Nat) (m : Memory) : Bool :=
  match m with
  | [] => true
  | (a, v) :: r => decide (lo ≤ a) && decide (a < Memory.size) && decide (v ≠ Memory.blank) && Memory.wfFrom (a + 1) r

/-- The canonical form of storage. -/
def Memory.wf (m : Memory) : Bool := m.wfFrom 0

/-- The region kinds (20_memory.md R51). -/
inductive RegionKind where
  /-- reads return the stored byte, writes store -/
  | ram
  /-- reads return the stored byte, writes do nothing -/
  | rom
  /-- reads and writes go to the environment -/
  | io
  /-- reads return any byte, writes do nothing -/
  | unmapped
deriving DecidableEq, Repr

/-- The addresses `first` to `last`, both included, with their kind. -/
structure Region where
  first : Nat
  last : Nat
  kind : RegionKind
deriving DecidableEq, Repr

/-- The address map `Bus` (20_memory.md R59) as data. Any total map from addresses to kinds is such a list. -/
abbrev BusMap := List Region

/-- The kind of an address: that of the first region that holds it, `ram` where none does (20_memory.md R59, the flat default). -/
def BusMap.kindAt (b : BusMap) (a : Addr) : RegionKind :=
  match b with
  | [] => .ram
  | r :: rest => if r.first ≤ a.toNat ∧ a.toNat ≤ r.last then r.kind else BusMap.kindAt rest a

/-- Whether reads of an address return the stored byte. -/
def RegionKind.isStorage : RegionKind → Bool
  | .ram => true
  | .rom => true
  | .io => false
  | .unmapped => false

end Sys2Proof.Machine
end

