-- ==== Sys2Proof/Machine/State.lean ====
section
/-! DEFINITION. The whole state of the machine as plain data (10_state.md R20), the reasons a step can stop, and the state after reset
(10_state.md R38). -/

namespace Sys2Proof.Machine

/-- The six flag bits of the processor (10_state.md R26). `B` and bit 5 of a status byte are not state (R29). -/
@[ext]
structure Flags where
  /-- Negative (R27) -/
  n : Bool
  /-- Overflow (R28) -/
  v : Bool
  /-- Decimal (R30) -/
  d : Bool
  /-- interrupt disable (R31) -/
  i : Bool
  /-- Zero (R32) -/
  z : Bool
  /-- Carry (R33) -/
  c : Bool
deriving DecidableEq, Repr

/-- What the environment supplies at one step boundary (60_exceptions.md R302 to R304, R317). -/
structure Inputs where
  irqLine : Bool
  nmiEdge : Bool
  resetLine : Bool
deriving DecidableEq, Repr

/-- No request: all three inputs false. -/
def Inputs.quiet : Inputs := { irqLine := false, nmiEdge := false, resetLine := false }

/-- What the inputs are past the end of the list State holds (60_exceptions.md R317). -/
inductive EnvEnd where
  /-- unconstrained: each boundary has three free inputs, so a request may come at any of them, and without end -/
  | free
  /-- "no interrupts": all three false forever, a constraint a claim may make -/
  | quiet
deriving DecidableEq, Repr

/-- What the environment sees of an access to an `io` location (20_memory.md R51, R60). -/
inductive IoEvent where
  | read (a : Addr) (v : Byte)
  | write (a : Addr) (v : Byte)
deriving DecidableEq, Repr

/-- The state between two steps. `a` to `nmiPending` are the spec's inventory (10_state.md R20); `bus`, `env`, `envEnd` and `iBefore` carry what
the spec passes to a step as parameters; `ioTrace` and `draws` are the model's own. -/
@[ext]
structure State where
  /-- accumulator A (R21) -/
  a : Byte
  /-- index register X (R22) -/
  x : Byte
  /-- index register Y (R23) -/
  y : Byte
  /-- Stack Pointer S (R24) -/
  sp : Byte
  /-- program counter (R25) -/
  pc : Addr
  /-- the flags N V D I Z C (R26) -/
  p : Flags
  /-- the contents of storage (R35) -/
  mem : Memory
  /-- a non-maskable request seen and not yet served (R36) -/
  nmiPending : Bool
  /-- the I flag before the last step if that was CLI, SEI or PLP (60_exceptions.md R304, `I_poll(prev)`); else none. Entry 9 -/
  iBefore : Option Bool
  /-- the address map (20_memory.md R59); no step writes it. Entry 1 -/
  bus : BusMap
  /-- the inputs a claim fixes for the boundaries to come, the next one first (60_exceptions.md R317). Entry 8 -/
  env : List Inputs
  /-- the inputs past the end of `env`; no step writes it (60_exceptions.md R317). Entry 8 -/
  envEnd : EnvEnd
  /-- the `io` accesses so far, newest first (20_memory.md R51). Entry 6 -/
  ioTrace : List IoEvent
  /-- how many free values have been drawn. Entry 5 -/
  draws : Nat
deriving DecidableEq, Repr

/-- The reasons to stop with a fault: none. The hardware raises no fault: "no instruction in scope can trap, no address can fault, no
access is misaligned" (00_scope.md R8). Entry 17. -/
inductive Fault
deriving DecidableEq, Repr

/-- The reasons to stop with a refusal. -/
inductive Refusal where
  /-- Raised by no arm of `exec`: every instruction has its meaning. Safe. -/
  | notModelled (mnemonic : String)
  /-- Raised by the fetch at `address` when the byte there is one of the 105 the opcode table does not list (30_encoding.md R98,
  decision D7). Safe: no claim can be proved of a program that executes such a byte. -/
  | illegalOpcode (byte : Byte) (address : Addr)
deriving DecidableEq, Repr

def State.setA (s : State) (v : Byte) : State := { s with a := v }
def State.setX (s : State) (v : Byte) : State := { s with x := v }
def State.setY (s : State) (v : Byte) : State := { s with y := v }
def State.setSp (s : State) (v : Byte) : State := { s with sp := v }
def State.setPc (s : State) (t : Addr) : State := { s with pc := t }
def State.setP (s : State) (f : Flags) : State := { s with p := f }
def State.setMem (s : State) (m : Memory) : State := { s with mem := m }
def State.setNmiPending (s : State) (b : Bool) : State := { s with nmiPending := b }
def State.setIBefore (s : State) (b : Option Bool) : State := { s with iBefore := b }
def State.setBus (s : State) (b : BusMap) : State := { s with bus := b }
def State.setEnv (s : State) (e : List Inputs) : State := { s with env := e }
def State.setEnvEnd (s : State) (e : EnvEnd) : State := { s with envEnd := e }
def State.setDraws (s : State) (k : Nat) : State := { s with draws := k }
def State.logIo (s : State) (e : IoEvent) : State := { s with ioTrace := e :: s.ioTrace }

/-- The machine right after a power-up reset (10_state.md R38, 70_reset_and_hazards.md R341): I = 1, `nmi_pending` = 0, pc = what the
reset vector holds, which is $0000 in blank storage (entry 16). The spec leaves A, X, Y, S, N, V, D, Z, C unspecified: DESIGN CHOICE 0,
unsafe, entry 3. The map is the flat default, storage is blank, the inputs are unconstrained from the first boundary on
(entries 1, 2, 8). -/
def State.reset : State where
  a := 0x00#8
  x := 0x00#8
  y := 0x00#8
  sp := 0x00#8
  pc := 0x0000#16
  p := { n := false, v := false, d := false, i := true, z := false, c := false }
  mem := []
  nmiPending := false
  iBefore := none
  bus := []
  env := []
  envEnd := .free
  ioTrace := []
  draws := 0

end Sys2Proof.Machine
end

