-- ==== Sys2Proof/Machine/Flags.lean ====
section
/-! DEFINITION. The status byte (10_state.md R34) and every flag computation of the spec. -/

namespace Sys2Proof.Machine

/-- `PackP(b)` = N:V:1:b:D:I:Z:C (10_state.md R34). -/
def Flags.pack (p : Flags) (b : Bool) : Byte :=
  BitVec.ofBool p.n ++ BitVec.ofBool p.v ++ 1#1 ++ BitVec.ofBool b ++ BitVec.ofBool p.d ++ BitVec.ofBool p.i ++ BitVec.ofBool p.z
    ++ BitVec.ofBool p.c

/-- `UnpackP(v)`: bits 5 and 4 are dropped (10_state.md R34). -/
def Flags.unpack (v : Byte) : Flags :=
  { n := v.getLsbD 7, v := v.getLsbD 6, d := v.getLsbD 3, i := v.getLsbD 2, z := v.getLsbD 1, c := v.getLsbD 0 }

/-- `SetNZ(v)` (00_scope.md R7, 10_state.md R27, R32). -/
def Flags.setNZ (p : Flags) (v : Byte) : Flags := { p with n := v.getLsbD 7, z := decide (v = 0) }

/-- The flags of a compare of a register with an operand (41_compare.md R140): N and Z from the 8-bit difference, C when the register is
greater or equal, unsigned. -/
def Flags.compare (p : Flags) (reg m : Byte) : Flags :=
  { p with n := (reg - m).getLsbD 7, z := decide (reg = m), c := decide (m.toNat ≤ reg.toNat) }

/-- The flags of BIT (46_arith_logic.md R223): N and V from the memory byte alone, Z from the conjunction. -/
def Flags.bitTest (p : Flags) (acc m : Byte) : Flags :=
  { p with n := m.getLsbD 7, v := m.getLsbD 6, z := decide (acc &&& m = 0) }

/-- The flags of a shift or rotate with result `r` and outgoing Carry `c` (43_shift_rotate.md R170). -/
def Flags.shift (p : Flags) (r : Byte) (c : Bool) : Flags := ({ p with c := c } : Flags).setNZ r

/-- The flags ADC and SBC write (46_arith_logic.md R221, R222). -/
def Flags.arith (p : Flags) (t : ArithResult) : Flags := { p with n := t.n, v := t.v, z := t.z, c := t.c }

/-- `zext_9(v)` (00_scope.md R7). -/
def zext9 (v : Byte) : BitVec 9 := v.setWidth 9

/-- A Carry as a 9-bit number. -/
def carry9 (c : Bool) : BitVec 9 := (BitVec.ofBool c).setWidth 9

/-- Binary ADC (46_arith_logic.md R221, branch D = 0). -/
def binaryAdc (acc m : Byte) (c : Bool) : ArithResult :=
  let t : BitVec 9 := zext9 acc + zext9 m + carry9 c
  let r : Byte := t.extractLsb' 0 8
  { r := r
    c := t.getLsbD 8
    n := r.getLsbD 7
    v := acc.getLsbD 7 == m.getLsbD 7 && r.getLsbD 7 != acc.getLsbD 7
    z := decide (r = 0) }

/-- Binary SBC (46_arith_logic.md R222, branch D = 0). -/
def binarySbc (acc m : Byte) (c : Bool) : ArithResult :=
  let t : BitVec 9 := zext9 acc + zext9 (m ^^^ 0xFF#8) + carry9 c
  let r : Byte := t.extractLsb' 0 8
  { r := r
    c := t.getLsbD 8
    n := r.getLsbD 7
    v := acc.getLsbD 7 != m.getLsbD 7 && r.getLsbD 7 != acc.getLsbD 7
    z := decide (r = 0) }

end Sys2Proof.Machine
end

