-- ==== Sys2Proof/Machine/Ops.lean ====
section
/-! DEFINITION. The operations every instruction and entry is built from: free values, memory accesses, the stack, 16-bit reads, taking an
interrupt and returning from one, the reset entry, and the advance of the program counter. An operation that reads answers the value and
the state after, since a read of an `io` location is an event (20_memory.md R60). -/

namespace Sys2Proof.Machine

/-- Draws a free byte: any value, a fresh one each time. Entry 5. -/
def drawByte (s : State) : Byte × State := (Config.freeByte s.draws, s.setDraws (s.draws + 1))

/-- Draws a free bit: any value, a fresh one each time. Entry 9. -/
def drawBit (s : State) : Bool × State := (Config.freeBit s.draws, s.setDraws (s.draws + 1))

/-- The byte storage holds at an address, without an access. -/
def State.peek (s : State) (a : Addr) : Byte := s.mem.read a.toNat

/-- The region kind of an address (20_memory.md R59). -/
def State.kindAt (s : State) (a : Addr) : RegionKind := s.bus.kindAt a

/-- `MemRead(a, 1)` (20_memory.md R51). -/
def memRead (a : Addr) (s : State) : Byte × State :=
  match s.kindAt a with
  | .ram => (s.peek a, s)
  | .rom => (s.peek a, s)
  | .io => ((drawByte s).1, (drawByte s).2.logIo (.read a (drawByte s).1))
  | .unmapped => drawByte s

/-- `MemWrite(a, 1, v)` (20_memory.md R51). -/
def memWrite (a : Addr) (v : Byte) (s : State) : State :=
  match s.kindAt a with
  | .ram => s.setMem (s.mem.write a.toNat v)
  | .rom => s
  | .io => s.logIo (.write a v)
  | .unmapped => s

/-- `Read16(a)`: low byte first, the increment carries (20_memory.md R66). -/
def read16 (a : Addr) (s : State) : Addr × State :=
  let lo := memRead a s
  let hi := memRead (a + 1) lo.2
  (mkAddr hi.1 lo.1, hi.2)

/-- `Read16zp(p)`: the second byte is taken from zero page too (20_memory.md R66). -/
def read16zp (p : Byte) (s : State) : Addr × State :=
  let lo := memRead (zeroPage p) s
  let hi := memRead (zeroPage (p + 1)) lo.2
  (mkAddr hi.1 lo.1, hi.2)

/-- `Read16page(a)`: the second byte is taken from the page of the first (20_memory.md R66). -/
def read16page (a : Addr) (s : State) : Addr × State :=
  let lo := memRead a s
  let hi := memRead (nextInPage a) lo.2
  (mkAddr hi.1 lo.1, hi.2)

/-- `Push(v)`: writes at `$01 : S`, then decrements S mod 256 (20_memory.md R57). -/
def push (v : Byte) (s : State) : State := (memWrite (stackAddr s.sp) v s).setSp (s.sp - 1)

/-- `Pull()`: increments S mod 256, then reads at `$01 : S` (20_memory.md R57). -/
def pull (s : State) : Byte × State := memRead (stackAddr (s.sp + 1)) (s.setSp (s.sp + 1))

/-- Pushes an address, high byte first (44_jump_return.md R190, 60_exceptions.md R306). -/
def pushAddr (t : Addr) (s : State) : State := push (loByte t) (push (hiByte t) s)

/-- Pulls an address, low byte first (44_jump_return.md R191). -/
def pullAddr (s : State) : Addr × State :=
  let lo := pull s
  let hi := pull lo.2
  (mkAddr hi.1 lo.1, hi.2)

/-- The program counter moves past an instruction of `len` bytes: `pc <- pc0 +_16 L` (10_state.md R25, 30_encoding.md R104). -/
def State.advance (s : State) (len : Nat) : State := s.setPc (s.pc + BitVec.ofNat 16 len)

/-- The vector of the non-maskable interrupt (20_memory.md R58). -/
def nmiVector : Addr := 0xFFFA#16

/-- The vector of reset (20_memory.md R58). -/
def resetVector : Addr := 0xFFFC#16

/-- The vector IRQ and BRK share (20_memory.md R58). -/
def irqVector : Addr := 0xFFFE#16

/-- Taking an exception: the return address and the status byte with break mark `brk` are pushed, I is set, and the program counter is
loaded from the vector. N, V, D, Z, C, A, X, Y stay (60_exceptions.md R306, 49_stack_misc.md R285). -/
def enterInterrupt (ret : Addr) (brk : Bool) (vector : Addr) (s : State) : State :=
  let s1 := push (s.p.pack brk) (pushAddr ret s)
  let target := read16 vector (s1.setP { s1.p with i := true })
  target.2.setPc target.1

/-- Returning from an exception: the flags, then the program counter are pulled (44_jump_return.md R193, 60_exceptions.md R308). -/
def returnFromInterrupt (s : State) : State :=
  let status := pull s
  let target := pullAddr (status.2.setP (Flags.unpack status.1))
  target.2.setPc target.1

/-- The IRQ entry step (60_exceptions.md R306). -/
def irqEntry (s : State) : State := enterInterrupt s.pc false irqVector s

/-- The NMI entry step (60_exceptions.md R303, R306). -/
def nmiEntry (s : State) : State := enterInterrupt s.pc false nmiVector (s.setNmiPending false)

/-- A, X, Y, S, N, V, D, Z, C each any value, I set: the registers after a reset entry (70_reset_and_hazards.md R340). Entry 4. -/
def drawRegisters (s : State) : State :=
  let a := drawByte s
  let x := drawByte a.2
  let y := drawByte x.2
  let sp := drawByte y.2
  let n := drawBit sp.2
  let v := drawBit n.2
  let d := drawBit v.2
  let z := drawBit d.2
  let c := drawBit z.2
  ((((c.2.setA a.1).setX x.1).setY y.1).setSp sp.1).setP { n := n.1, v := v.1, d := d.1, i := true, z := z.1, c := c.1 }

/-- The reset entry step: pc from the reset vector, the latch cleared, nothing pushed, storage as it was (70_reset_and_hazards.md
R340). -/
def resetEntry (s : State) : State :=
  let target := read16 resetVector (s.setNmiPending false)
  (drawRegisters target.2).setPc target.1

end Sys2Proof.Machine
end

