-- ==== Sys2Proof/Machine/Boundary.lean ====
section
/-! DEFINITION. What happens at a step boundary before an instruction or an entry (60_exceptions.md R302 to R305, R317). -/

namespace Sys2Proof.Machine

/-- Three inputs under no law: any of the eight triples, a fresh one each time (60_exceptions.md R317, "unconstrained"). Entry 8. -/
def drawInputs (s : State) : Inputs × State :=
  let irq := drawBit s
  let nmi := drawBit irq.2
  let reset := drawBit nmi.2
  ({ irqLine := irq.1, nmiEdge := nmi.1, resetLine := reset.1 }, reset.2)

/-- Takes the inputs of this boundary: the first of `env`; past its end what `envEnd` says (60_exceptions.md R317). Entry 8. -/
def takeInputs (s : State) : Inputs × State :=
  match s.env with
  | e :: rest => (e, s.setEnv rest)
  | [] =>
    match s.envEnd with
    | .free => drawInputs s
    | .quiet => (Inputs.quiet, s)

/-- The inputs at this boundary (60_exceptions.md R317). -/
def State.inputs (s : State) : Inputs := (takeInputs s).1

/-- The state once this boundary's inputs have been taken: `nmi_pending <- nmi_pending | nmi_edge` (60_exceptions.md R303, R304). -/
def latchInputs (s : State) : State := (takeInputs s).2.setNmiPending (s.nmiPending || s.inputs.nmiEdge)

/-- `I_poll(prev)`: after CLI, SEI and PLP the I before or the I after, by a free bit; else the current I (60_exceptions.md R304, U10).
Entry 9. -/
def iPoll (s : State) : Bool × State :=
  match s.iBefore with
  | none => (s.p.i, s)
  | some before => ((if (drawBit s).1 then before else s.p.i), (drawBit s).2)

/-- What the next step is. -/
inductive Event where
  | reset
  | nmi
  | irq
  | instruction
deriving DecidableEq, Repr

/-- The decision at a boundary with its inputs already latched: RESET before NMI before IRQ (60_exceptions.md R304, R305). `I_poll` is
consulted only where `irq_line` asks. -/
def decideEvent (e : Inputs) (s : State) : Event × State :=
  if e.resetLine then (.reset, s)
  else if s.nmiPending then (.nmi, s)
  else if e.irqLine then ((if (iPoll s).1 then .instruction else .irq), (iPoll s).2)
  else (.instruction, s)

/-- The boundary: latch the inputs, decide, and forget the previous instruction. -/
def boundary (s : State) : Event × State :=
  let d := decideEvent s.inputs (latchInputs s)
  (d.1, d.2.setIBefore none)

end Sys2Proof.Machine
end

