-- ==== Sys2Proof/Machine/Decimal.lean ====
section
/-! DEFINITION. Decimal mode (46_arith_logic.md R220): `bcd_adc` and `bcd_sbc` with the property `BcdValid` and nothing else, and the NMOS
reference instance the spec offers. -/

namespace Sys2Proof.Machine

/-- A byte is valid packed BCD: both digits are at most 9 (46_arith_logic.md R220). -/
def isBcd (b : Byte) : Bool := decide (b.toNat / 16 ≤ 9) && decide (b.toNat % 16 ≤ 9)

/-- `val(b) = 10 * b[7:4] + b[3:0]` (46_arith_logic.md R220). -/
def bcdVal (b : Byte) : Nat := 10 * (b.toNat / 16) + b.toNat % 16

/-- `bcd(n)`: the byte with the value n, for n in 0..99 (46_arith_logic.md R220). -/
def bcdByte (n : Nat) : Byte := BitVec.ofNat 8 (16 * (n / 10) + n % 10)

/-- The decimal sum s = val(a) + val(m) + c of `BcdValid`. -/
def bcdSum (acc m : Byte) (c : Bool) : Nat := bcdVal acc + bcdVal m + c.toNat

/-- The decimal difference s = val(a) - val(m) - (1 - c) of `BcdValid`. -/
def bcdDiff (acc m : Byte) (c : Bool) : Int := (bcdVal acc : Int) - bcdVal m - (1 - c.toNat)

/-- The property `BcdValid` of a function for ADC (46_arith_logic.md R220). -/
def BcdValidAdc (f : Byte → Byte → Bool → ArithResult) : Prop :=
  ∀ acc m c, isBcd acc = true → isBcd m = true →
    (f acc m c).r = bcdByte (bcdSum acc m c % 100) ∧ (f acc m c).c = decide (100 ≤ bcdSum acc m c)

/-- The property `BcdValid` of a function for SBC (46_arith_logic.md R220). -/
def BcdValidSbc (f : Byte → Byte → Bool → ArithResult) : Prop :=
  ∀ acc m c, isBcd acc = true → isBcd m = true →
    (f acc m c).r = bcdByte (bcdDiff acc m c % 100).toNat ∧ (f acc m c).c = decide (0 ≤ bcdDiff acc m c)

/-- `bcd_adc`: the decimal sum where both operands are packed BCD; N, V, Z always, and everything elsewhere, from the opaque
`Config.decimalAdc` (46_arith_logic.md R220). Entry 7. -/
def bcdAdc (acc m : Byte) (c : Bool) : ArithResult :=
  if isBcd acc && isBcd m then
    { Config.decimalAdc acc m c with r := bcdByte (bcdSum acc m c % 100), c := decide (100 ≤ bcdSum acc m c) }
  else Config.decimalAdc acc m c

/-- `bcd_sbc`: the decimal difference where both operands are packed BCD; N, V, Z always, and everything elsewhere, from the opaque
`Config.decimalSbc` (46_arith_logic.md R220). Entry 7. -/
def bcdSbc (acc m : Byte) (c : Bool) : ArithResult :=
  if isBcd acc && isBcd m then
    { Config.decimalSbc acc m c with
      r := bcdByte (bcdDiff acc m c % 100).toNat, c := decide (0 ≤ bcdDiff acc m c) }
  else Config.decimalSbc acc m c

/-- What ADC delivers (46_arith_logic.md R221). -/
def adcResult (acc m : Byte) (p : Flags) : ArithResult := if p.d then bcdAdc acc m p.c else binaryAdc acc m p.c

/-- What SBC delivers (46_arith_logic.md R222). -/
def sbcResult (acc m : Byte) (p : Flags) : ArithResult := if p.d then bcdSbc acc m p.c else binarySbc acc m p.c

/-- `signed8(v)` (00_scope.md R7). -/
def signed8 (v : Nat) : Int := if 128 ≤ v then (v : Int) - 256 else v

/-- The NMOS reference instance of `bcd_adc` (46_arith_logic.md R220), offered by the spec as one instance; no step uses it. -/
def nmosAdc (acc m : Byte) (c : Bool) : ArithResult :=
  let a := acc.toNat
  let b := m.toNat
  let al0 := a % 16 + b % 16 + c.toNat
  let al := if 10 ≤ al0 then (al0 + 6) % 16 + 16 else al0
  let t0 := a / 16 * 16 + b / 16 * 16 + al
  let ts := signed8 (a / 16 * 16) + signed8 (b / 16 * 16) + (al : Int)
  let t := if 160 ≤ t0 then t0 + 96 else t0
  { r := BitVec.ofNat 8 t
    c := decide (256 ≤ t)
    n := t0.testBit 7
    v := decide (ts < -128) || decide (127 < ts)
    z := decide ((a + b + c.toNat) % 256 = 0) }

/-- The NMOS reference instance of `bcd_sbc` (46_arith_logic.md R220), offered by the spec as one instance; no step uses it. -/
def nmosSbc (acc m : Byte) (c : Bool) : ArithResult :=
  let a := acc.toNat
  let b := m.toNat
  let al0 : Int := (a % 16 : Nat) - (b % 16 : Nat) + (c.toNat : Int) - 1
  let al : Int := if al0 < 0 then (al0 - 6) % 16 - 16 else al0
  let t0 : Int := (a / 16 * 16 : Nat) - (b / 16 * 16 : Nat) + al
  let t : Int := if t0 < 0 then t0 - 96 else t0
  { binarySbc acc m c with r := BitVec.ofInt 8 t }

end Sys2Proof.Machine
end

