-- ==== Sys2Proof/Syntax.lean ====
section
/-! DEFINITION. The instructions: the 56 mnemonics, the operand forms of the 13 addressing modes, the 151 rows of the opcode table
(30_encoding.md R82 to R96), and an instruction as an assembly line. -/

namespace Sys2Proof

/-- The 56 mnemonics, in the order of the families (00_scope.md R11). -/
inductive Mnemonic where
  | lda | ldx | ldy | sta | stx | sty
  | cmp | cpx | cpy
  | bpl | bmi | bvc | bvs | bcc | bcs | bne | beq
  | asl | lsr | rol | ror
  | jsr | rts | jmp | rti
  | inc | dec | inx | dex | iny | dey
  | adc | sbc | bit | and | ora | eor
  | tax | txa | tay | tya | tsx | txs
  | clc | sec | cld | sed | cli | sei | clv
  | pha | pla | php | plp | nop | brk
deriving DecidableEq, Repr

/-- The 13 addressing modes (30_encoding.md R82). -/
inductive Mode where
  | imp | acc | imm | zp | zpx | zpy | abs | abx | aby | ind | izx | izy | rel
deriving DecidableEq, Repr

/-- The operand forms that designate one memory location, with their operand bytes (30_encoding.md R86 to R91, R93, R94). -/
inductive MemMode where
  /-- `$nn` (R86) -/
  | zp (n : Byte)
  /-- `$nn,X` (R87) -/
  | zpx (n : Byte)
  /-- `$nn,Y` (R88) -/
  | zpy (n : Byte)
  /-- `$hhll` (R89) -/
  | abs (a : Addr)
  /-- `$hhll,X` (R90) -/
  | abx (a : Addr)
  /-- `$hhll,Y` (R91) -/
  | aby (a : Addr)
  /-- `($nn,X)` (R93) -/
  | izx (n : Byte)
  /-- `($nn),Y` (R94) -/
  | izy (n : Byte)
deriving DecidableEq, Repr

/-- The operand of an assembly line (30_encoding.md R83 to R95). -/
inductive Operand where
  /-- none (R83) -/
  | imp
  /-- `A` (R84) -/
  | acc
  /-- `#$nn` (R85) -/
  | imm (n : Byte)
  /-- a memory location (R86 to R91, R93, R94) -/
  | mem (m : MemMode)
  /-- `($hhll)` (R92) -/
  | ind (a : Addr)
  /-- a displacement (R95) -/
  | rel (d : Byte)
deriving DecidableEq, Repr

/-- One instruction of the opcode table, with its operand (30_encoding.md R96; the four rows whose printed mode or form is a misprint
stand as 90_conflicts.md C5 to C8 correct them). A 16-bit operand is `b2 : b1`. -/
inductive Instr where
  /-- $A9 `LDA #$nn` (R120, R85) -/
  | ldaImm (n : Byte)
  /-- $A5 `LDA $nn` (R120, R86) -/
  | ldaZp (n : Byte)
  /-- $B5 `LDA $nn,X` (R120, R87) -/
  | ldaZpx (n : Byte)
  /-- $AD `LDA $hhll` (R120, R89) -/
  | ldaAbs (a : Addr)
  /-- $BD `LDA $hhll,X` (R120, R90) -/
  | ldaAbx (a : Addr)
  /-- $B9 `LDA $hhll,Y` (R120, R91) -/
  | ldaAby (a : Addr)
  /-- $A1 `LDA ($nn,X)` (R120, R93) -/
  | ldaIzx (n : Byte)
  /-- $B1 `LDA ($nn),Y` (R120, R94) -/
  | ldaIzy (n : Byte)
  /-- $A2 `LDX #$nn` (R121, R85) -/
  | ldxImm (n : Byte)
  /-- $A6 `LDX $nn` (R121, R86) -/
  | ldxZp (n : Byte)
  /-- $B6 `LDX $nn,Y` (R121, R88) -/
  | ldxZpy (n : Byte)
  /-- $AE `LDX $hhll` (R121, R89) -/
  | ldxAbs (a : Addr)
  /-- $BE `LDX $hhll,Y` (R121, R91) -/
  | ldxAby (a : Addr)
  /-- $A0 `LDY #$nn` (R122, R85) -/
  | ldyImm (n : Byte)
  /-- $A4 `LDY $nn` (R122, R86) -/
  | ldyZp (n : Byte)
  /-- $B4 `LDY $nn,X` (R122, R87) -/
  | ldyZpx (n : Byte)
  /-- $AC `LDY $hhll` (R122, R89) -/
  | ldyAbs (a : Addr)
  /-- $BC `LDY $hhll,X` (R122, R90) -/
  | ldyAbx (a : Addr)
  /-- $85 `STA $nn` (R123, R86) -/
  | staZp (n : Byte)
  /-- $95 `STA $nn,X` (R123, R87) -/
  | staZpx (n : Byte)
  /-- $8D `STA $hhll` (R123, R89) -/
  | staAbs (a : Addr)
  /-- $9D `STA $hhll,X` (R123, R90) -/
  | staAbx (a : Addr)
  /-- $99 `STA $hhll,Y` (R123, R91) -/
  | staAby (a : Addr)
  /-- $81 `STA ($nn,X)` (R123, R93) -/
  | staIzx (n : Byte)
  /-- $91 `STA ($nn),Y` (R123, R94) -/
  | staIzy (n : Byte)
  /-- $86 `STX $nn` (R124, R86) -/
  | stxZp (n : Byte)
  /-- $96 `STX $nn,Y` (R124, R88) -/
  | stxZpy (n : Byte)
  /-- $8E `STX $hhll` (R124, R89) -/
  | stxAbs (a : Addr)
  /-- $84 `STY $nn` (R125, R86) -/
  | styZp (n : Byte)
  /-- $94 `STY $nn,X` (R125, R87) -/
  | styZpx (n : Byte)
  /-- $8C `STY $hhll` (R125, R89) -/
  | styAbs (a : Addr)
  /-- $C9 `CMP #$nn` (R140, R85) -/
  | cmpImm (n : Byte)
  /-- $C5 `CMP $nn` (R140, R86) -/
  | cmpZp (n : Byte)
  /-- $D5 `CMP $nn,X` (R140, R87) -/
  | cmpZpx (n : Byte)
  /-- $CD `CMP $hhll` (R140, R89) -/
  | cmpAbs (a : Addr)
  /-- $DD `CMP $hhll,X` (R140, R90) -/
  | cmpAbx (a : Addr)
  /-- $D9 `CMP $hhll,Y` (R140, R91) -/
  | cmpAby (a : Addr)
  /-- $C1 `CMP ($nn,X)` (R140, R93) -/
  | cmpIzx (n : Byte)
  /-- $D1 `CMP ($nn),Y` (R140, R94) -/
  | cmpIzy (n : Byte)
  /-- $E0 `CPX #$nn` (R141, R85) -/
  | cpxImm (n : Byte)
  /-- $E4 `CPX $nn` (R141, R86) -/
  | cpxZp (n : Byte)
  /-- $EC `CPX $hhll` (R141, R89) -/
  | cpxAbs (a : Addr)
  /-- $C0 `CPY #$nn` (R142, R85) -/
  | cpyImm (n : Byte)
  /-- $C4 `CPY $nn` (R142, R86) -/
  | cpyZp (n : Byte)
  /-- $CC `CPY $hhll` (R142, R89) -/
  | cpyAbs (a : Addr)
  /-- $10 `BPL $hhll (target)` (R151, R95) -/
  | bpl (d : Byte)
  /-- $30 `BMI $hhll (target)` (R152, R95) -/
  | bmi (d : Byte)
  /-- $50 `BVC $hhll (target)` (R153, R95) -/
  | bvc (d : Byte)
  /-- $70 `BVS $hhll (target)` (R154, R95) -/
  | bvs (d : Byte)
  /-- $90 `BCC $hhll (target)` (R155, R95) -/
  | bcc (d : Byte)
  /-- $B0 `BCS $hhll (target)` (R156, R95) -/
  | bcs (d : Byte)
  /-- $D0 `BNE $hhll (target)` (R157, R95) -/
  | bne (d : Byte)
  /-- $F0 `BEQ $hhll (target)` (R158, R95) -/
  | beq (d : Byte)
  /-- $0A `ASL A` (R171, R84) -/
  | aslAcc
  /-- $06 `ASL $nn` (R171, R86) -/
  | aslZp (n : Byte)
  /-- $16 `ASL $nn,X` (R171, R87) -/
  | aslZpx (n : Byte)
  /-- $0E `ASL $hhll` (R171, R89) -/
  | aslAbs (a : Addr)
  /-- $1E `ASL $hhll,X` (R171, R90) -/
  | aslAbx (a : Addr)
  /-- $4A `LSR A` (R172, R84) -/
  | lsrAcc
  /-- $46 `LSR $nn` (R172, R86) -/
  | lsrZp (n : Byte)
  /-- $56 `LSR $nn,X` (R172, R87) -/
  | lsrZpx (n : Byte)
  /-- $4E `LSR $hhll` (R172, R89) -/
  | lsrAbs (a : Addr)
  /-- $5E `LSR $hhll,X` (R172, R90) -/
  | lsrAbx (a : Addr)
  /-- $2A `ROL A` (R173, R84) -/
  | rolAcc
  /-- $26 `ROL $nn` (R173, R86) -/
  | rolZp (n : Byte)
  /-- $36 `ROL $nn,X` (R173, R87) -/
  | rolZpx (n : Byte)
  /-- $2E `ROL $hhll` (R173, R89) -/
  | rolAbs (a : Addr)
  /-- $3E `ROL $hhll,X` (R173, R90) -/
  | rolAbx (a : Addr)
  /-- $6A `ROR A` (R174, R84) -/
  | rorAcc
  /-- $66 `ROR $nn` (R174, R86) -/
  | rorZp (n : Byte)
  /-- $76 `ROR $nn,X` (R174, R87) -/
  | rorZpx (n : Byte)
  /-- $6E `ROR $hhll` (R174, R89) -/
  | rorAbs (a : Addr)
  /-- $7E `ROR $hhll,X` (R174, R90) -/
  | rorAbx (a : Addr)
  /-- $20 `JSR $hhll` (R190, R89) -/
  | jsrAbs (a : Addr)
  /-- $60 `RTS` (R191, R83) -/
  | rts
  /-- $4C `JMP $hhll` (R192, R89) -/
  | jmpAbs (a : Addr)
  /-- $6C `JMP ($hhll)` (R192, R92) -/
  | jmpInd (a : Addr)
  /-- $40 `RTI` (R193, R83) -/
  | rti
  /-- $E6 `INC $nn` (R200, R86) -/
  | incZp (n : Byte)
  /-- $F6 `INC $nn,X` (R200, R87) -/
  | incZpx (n : Byte)
  /-- $EE `INC $hhll` (R200, R89) -/
  | incAbs (a : Addr)
  /-- $FE `INC $hhll,X` (R200, R90) -/
  | incAbx (a : Addr)
  /-- $C6 `DEC $nn` (R201, R86) -/
  | decZp (n : Byte)
  /-- $D6 `DEC $nn,X` (R201, R87) -/
  | decZpx (n : Byte)
  /-- $CE `DEC $hhll` (R201, R89) -/
  | decAbs (a : Addr)
  /-- $DE `DEC $hhll,X` (R201, R90) -/
  | decAbx (a : Addr)
  /-- $E8 `INX` (R202, R83) -/
  | inx
  /-- $CA `DEX` (R203, R83) -/
  | dex
  /-- $C8 `INY` (R204, R83) -/
  | iny
  /-- $88 `DEY` (R205, R83) -/
  | dey
  /-- $69 `ADC #$nn` (R221, R85) -/
  | adcImm (n : Byte)
  /-- $65 `ADC $nn` (R221, R86) -/
  | adcZp (n : Byte)
  /-- $75 `ADC $nn,X` (R221, R87) -/
  | adcZpx (n : Byte)
  /-- $6D `ADC $hhll` (R221, R89) -/
  | adcAbs (a : Addr)
  /-- $7D `ADC $hhll,X` (R221, R90) -/
  | adcAbx (a : Addr)
  /-- $79 `ADC $hhll,Y` (R221, R91) -/
  | adcAby (a : Addr)
  /-- $61 `ADC ($nn,X)` (R221, R93) -/
  | adcIzx (n : Byte)
  /-- $71 `ADC ($nn),Y` (R221, R94) -/
  | adcIzy (n : Byte)
  /-- $E9 `SBC #$nn` (R222, R85) -/
  | sbcImm (n : Byte)
  /-- $E5 `SBC $nn` (R222, R86) -/
  | sbcZp (n : Byte)
  /-- $F5 `SBC $nn,X` (R222, R87) -/
  | sbcZpx (n : Byte)
  /-- $ED `SBC $hhll` (R222, R89) -/
  | sbcAbs (a : Addr)
  /-- $FD `SBC $hhll,X` (R222, R90) -/
  | sbcAbx (a : Addr)
  /-- $F9 `SBC $hhll,Y` (R222, R91) -/
  | sbcAby (a : Addr)
  /-- $E1 `SBC ($nn,X)` (R222, R93) -/
  | sbcIzx (n : Byte)
  /-- $F1 `SBC ($nn),Y` (R222, R94) -/
  | sbcIzy (n : Byte)
  /-- $24 `BIT $nn` (R223, R86) -/
  | bitZp (n : Byte)
  /-- $2C `BIT $hhll` (R223, R89) -/
  | bitAbs (a : Addr)
  /-- $29 `AND #$nn` (R224, R85) -/
  | andImm (n : Byte)
  /-- $25 `AND $nn` (R224, R86) -/
  | andZp (n : Byte)
  /-- $35 `AND $nn,X` (R224, R87) -/
  | andZpx (n : Byte)
  /-- $2D `AND $hhll` (R224, R89) -/
  | andAbs (a : Addr)
  /-- $3D `AND $hhll,X` (R224, R90) -/
  | andAbx (a : Addr)
  /-- $39 `AND $hhll,Y` (R224, R91) -/
  | andAby (a : Addr)
  /-- $21 `AND ($nn,X)` (R224, R93) -/
  | andIzx (n : Byte)
  /-- $31 `AND ($nn),Y` (R224, R94) -/
  | andIzy (n : Byte)
  /-- $09 `ORA #$nn` (R225, R85) -/
  | oraImm (n : Byte)
  /-- $05 `ORA $nn` (R225, R86) -/
  | oraZp (n : Byte)
  /-- $15 `ORA $nn,X` (R225, R87) -/
  | oraZpx (n : Byte)
  /-- $0D `ORA $hhll` (R225, R89) -/
  | oraAbs (a : Addr)
  /-- $1D `ORA $hhll,X` (R225, R90) -/
  | oraAbx (a : Addr)
  /-- $19 `ORA $hhll,Y` (R225, R91) -/
  | oraAby (a : Addr)
  /-- $01 `ORA ($nn,X)` (R225, R93) -/
  | oraIzx (n : Byte)
  /-- $11 `ORA ($nn),Y` (R225, R94) -/
  | oraIzy (n : Byte)
  /-- $49 `EOR #$nn` (R226, R85) -/
  | eorImm (n : Byte)
  /-- $45 `EOR $nn` (R226, R86) -/
  | eorZp (n : Byte)
  /-- $55 `EOR $nn,X` (R226, R87) -/
  | eorZpx (n : Byte)
  /-- $4D `EOR $hhll` (R226, R89) -/
  | eorAbs (a : Addr)
  /-- $5D `EOR $hhll,X` (R226, R90) -/
  | eorAbx (a : Addr)
  /-- $59 `EOR $hhll,Y` (R226, R91) -/
  | eorAby (a : Addr)
  /-- $41 `EOR ($nn,X)` (R226, R93) -/
  | eorIzx (n : Byte)
  /-- $51 `EOR ($nn),Y` (R226, R94) -/
  | eorIzy (n : Byte)
  /-- $AA `TAX` (R250, R83) -/
  | tax
  /-- $8A `TXA` (R251, R83) -/
  | txa
  /-- $A8 `TAY` (R252, R83) -/
  | tay
  /-- $98 `TYA` (R253, R83) -/
  | tya
  /-- $BA `TSX` (R254, R83) -/
  | tsx
  /-- $9A `TXS` (R255, R83) -/
  | txs
  /-- $18 `CLC` (R260, R83) -/
  | clc
  /-- $38 `SEC` (R261, R83) -/
  | sec
  /-- $D8 `CLD` (R262, R83) -/
  | cld
  /-- $F8 `SED` (R263, R83) -/
  | sed
  /-- $58 `CLI` (R264, R83) -/
  | cli
  /-- $78 `SEI` (R265, R83) -/
  | sei
  /-- $B8 `CLV` (R266, R83) -/
  | clv
  /-- $48 `PHA` (R280, R83) -/
  | pha
  /-- $68 `PLA` (R281, R83) -/
  | pla
  /-- $08 `PHP` (R282, R83) -/
  | php
  /-- $28 `PLP` (R283, R83) -/
  | plp
  /-- $EA `NOP` (R284, R83) -/
  | nop
  /-- $00 `BRK` (R285, R83) -/
  | brk
deriving DecidableEq, Repr

/-- An assembly line: a mnemonic and an operand, in any combination (30_encoding.md R101). `Line.wf` says which exist. -/
structure Line where
  mnemonic : Mnemonic
  operand : Operand
deriving DecidableEq, Repr

/-- The addressing mode of a memory operand. -/
def MemMode.mode : MemMode → Mode
  | .zp _ => .zp
  | .zpx _ => .zpx
  | .zpy _ => .zpy
  | .abs _ => .abs
  | .abx _ => .abx
  | .aby _ => .aby
  | .izx _ => .izx
  | .izy _ => .izy

/-- The addressing mode of an operand. -/
def Operand.mode : Operand → Mode
  | .imp => .imp
  | .acc => .acc
  | .imm _ => .imm
  | .mem m => m.mode
  | .ind _ => .ind
  | .rel _ => .rel

/-- An instruction as an assembly line (30_encoding.md R96, columns mnemonic and mode). -/
def Instr.line : Instr → Line
  | .ldaImm n => ⟨.lda, .imm n⟩
  | .ldaZp n => ⟨.lda, .mem (.zp n)⟩
  | .ldaZpx n => ⟨.lda, .mem (.zpx n)⟩
  | .ldaAbs a => ⟨.lda, .mem (.abs a)⟩
  | .ldaAbx a => ⟨.lda, .mem (.abx a)⟩
  | .ldaAby a => ⟨.lda, .mem (.aby a)⟩
  | .ldaIzx n => ⟨.lda, .mem (.izx n)⟩
  | .ldaIzy n => ⟨.lda, .mem (.izy n)⟩
  | .ldxImm n => ⟨.ldx, .imm n⟩
  | .ldxZp n => ⟨.ldx, .mem (.zp n)⟩
  | .ldxZpy n => ⟨.ldx, .mem (.zpy n)⟩
  | .ldxAbs a => ⟨.ldx, .mem (.abs a)⟩
  | .ldxAby a => ⟨.ldx, .mem (.aby a)⟩
  | .ldyImm n => ⟨.ldy, .imm n⟩
  | .ldyZp n => ⟨.ldy, .mem (.zp n)⟩
  | .ldyZpx n => ⟨.ldy, .mem (.zpx n)⟩
  | .ldyAbs a => ⟨.ldy, .mem (.abs a)⟩
  | .ldyAbx a => ⟨.ldy, .mem (.abx a)⟩
  | .staZp n => ⟨.sta, .mem (.zp n)⟩
  | .staZpx n => ⟨.sta, .mem (.zpx n)⟩
  | .staAbs a => ⟨.sta, .mem (.abs a)⟩
  | .staAbx a => ⟨.sta, .mem (.abx a)⟩
  | .staAby a => ⟨.sta, .mem (.aby a)⟩
  | .staIzx n => ⟨.sta, .mem (.izx n)⟩
  | .staIzy n => ⟨.sta, .mem (.izy n)⟩
  | .stxZp n => ⟨.stx, .mem (.zp n)⟩
  | .stxZpy n => ⟨.stx, .mem (.zpy n)⟩
  | .stxAbs a => ⟨.stx, .mem (.abs a)⟩
  | .styZp n => ⟨.sty, .mem (.zp n)⟩
  | .styZpx n => ⟨.sty, .mem (.zpx n)⟩
  | .styAbs a => ⟨.sty, .mem (.abs a)⟩
  | .cmpImm n => ⟨.cmp, .imm n⟩
  | .cmpZp n => ⟨.cmp, .mem (.zp n)⟩
  | .cmpZpx n => ⟨.cmp, .mem (.zpx n)⟩
  | .cmpAbs a => ⟨.cmp, .mem (.abs a)⟩
  | .cmpAbx a => ⟨.cmp, .mem (.abx a)⟩
  | .cmpAby a => ⟨.cmp, .mem (.aby a)⟩
  | .cmpIzx n => ⟨.cmp, .mem (.izx n)⟩
  | .cmpIzy n => ⟨.cmp, .mem (.izy n)⟩
  | .cpxImm n => ⟨.cpx, .imm n⟩
  | .cpxZp n => ⟨.cpx, .mem (.zp n)⟩
  | .cpxAbs a => ⟨.cpx, .mem (.abs a)⟩
  | .cpyImm n => ⟨.cpy, .imm n⟩
  | .cpyZp n => ⟨.cpy, .mem (.zp n)⟩
  | .cpyAbs a => ⟨.cpy, .mem (.abs a)⟩
  | .bpl d => ⟨.bpl, .rel d⟩
  | .bmi d => ⟨.bmi, .rel d⟩
  | .bvc d => ⟨.bvc, .rel d⟩
  | .bvs d => ⟨.bvs, .rel d⟩
  | .bcc d => ⟨.bcc, .rel d⟩
  | .bcs d => ⟨.bcs, .rel d⟩
  | .bne d => ⟨.bne, .rel d⟩
  | .beq d => ⟨.beq, .rel d⟩
  | .aslAcc => ⟨.asl, .acc⟩
  | .aslZp n => ⟨.asl, .mem (.zp n)⟩
  | .aslZpx n => ⟨.asl, .mem (.zpx n)⟩
  | .aslAbs a => ⟨.asl, .mem (.abs a)⟩
  | .aslAbx a => ⟨.asl, .mem (.abx a)⟩
  | .lsrAcc => ⟨.lsr, .acc⟩
  | .lsrZp n => ⟨.lsr, .mem (.zp n)⟩
  | .lsrZpx n => ⟨.lsr, .mem (.zpx n)⟩
  | .lsrAbs a => ⟨.lsr, .mem (.abs a)⟩
  | .lsrAbx a => ⟨.lsr, .mem (.abx a)⟩
  | .rolAcc => ⟨.rol, .acc⟩
  | .rolZp n => ⟨.rol, .mem (.zp n)⟩
  | .rolZpx n => ⟨.rol, .mem (.zpx n)⟩
  | .rolAbs a => ⟨.rol, .mem (.abs a)⟩
  | .rolAbx a => ⟨.rol, .mem (.abx a)⟩
  | .rorAcc => ⟨.ror, .acc⟩
  | .rorZp n => ⟨.ror, .mem (.zp n)⟩
  | .rorZpx n => ⟨.ror, .mem (.zpx n)⟩
  | .rorAbs a => ⟨.ror, .mem (.abs a)⟩
  | .rorAbx a => ⟨.ror, .mem (.abx a)⟩
  | .jsrAbs a => ⟨.jsr, .mem (.abs a)⟩
  | .rts => ⟨.rts, .imp⟩
  | .jmpAbs a => ⟨.jmp, .mem (.abs a)⟩
  | .jmpInd a => ⟨.jmp, .ind a⟩
  | .rti => ⟨.rti, .imp⟩
  | .incZp n => ⟨.inc, .mem (.zp n)⟩
  | .incZpx n => ⟨.inc, .mem (.zpx n)⟩
  | .incAbs a => ⟨.inc, .mem (.abs a)⟩
  | .incAbx a => ⟨.inc, .mem (.abx a)⟩
  | .decZp n => ⟨.dec, .mem (.zp n)⟩
  | .decZpx n => ⟨.dec, .mem (.zpx n)⟩
  | .decAbs a => ⟨.dec, .mem (.abs a)⟩
  | .decAbx a => ⟨.dec, .mem (.abx a)⟩
  | .inx => ⟨.inx, .imp⟩
  | .dex => ⟨.dex, .imp⟩
  | .iny => ⟨.iny, .imp⟩
  | .dey => ⟨.dey, .imp⟩
  | .adcImm n => ⟨.adc, .imm n⟩
  | .adcZp n => ⟨.adc, .mem (.zp n)⟩
  | .adcZpx n => ⟨.adc, .mem (.zpx n)⟩
  | .adcAbs a => ⟨.adc, .mem (.abs a)⟩
  | .adcAbx a => ⟨.adc, .mem (.abx a)⟩
  | .adcAby a => ⟨.adc, .mem (.aby a)⟩
  | .adcIzx n => ⟨.adc, .mem (.izx n)⟩
  | .adcIzy n => ⟨.adc, .mem (.izy n)⟩
  | .sbcImm n => ⟨.sbc, .imm n⟩
  | .sbcZp n => ⟨.sbc, .mem (.zp n)⟩
  | .sbcZpx n => ⟨.sbc, .mem (.zpx n)⟩
  | .sbcAbs a => ⟨.sbc, .mem (.abs a)⟩
  | .sbcAbx a => ⟨.sbc, .mem (.abx a)⟩
  | .sbcAby a => ⟨.sbc, .mem (.aby a)⟩
  | .sbcIzx n => ⟨.sbc, .mem (.izx n)⟩
  | .sbcIzy n => ⟨.sbc, .mem (.izy n)⟩
  | .bitZp n => ⟨.bit, .mem (.zp n)⟩
  | .bitAbs a => ⟨.bit, .mem (.abs a)⟩
  | .andImm n => ⟨.and, .imm n⟩
  | .andZp n => ⟨.and, .mem (.zp n)⟩
  | .andZpx n => ⟨.and, .mem (.zpx n)⟩
  | .andAbs a => ⟨.and, .mem (.abs a)⟩
  | .andAbx a => ⟨.and, .mem (.abx a)⟩
  | .andAby a => ⟨.and, .mem (.aby a)⟩
  | .andIzx n => ⟨.and, .mem (.izx n)⟩
  | .andIzy n => ⟨.and, .mem (.izy n)⟩
  | .oraImm n => ⟨.ora, .imm n⟩
  | .oraZp n => ⟨.ora, .mem (.zp n)⟩
  | .oraZpx n => ⟨.ora, .mem (.zpx n)⟩
  | .oraAbs a => ⟨.ora, .mem (.abs a)⟩
  | .oraAbx a => ⟨.ora, .mem (.abx a)⟩
  | .oraAby a => ⟨.ora, .mem (.aby a)⟩
  | .oraIzx n => ⟨.ora, .mem (.izx n)⟩
  | .oraIzy n => ⟨.ora, .mem (.izy n)⟩
  | .eorImm n => ⟨.eor, .imm n⟩
  | .eorZp n => ⟨.eor, .mem (.zp n)⟩
  | .eorZpx n => ⟨.eor, .mem (.zpx n)⟩
  | .eorAbs a => ⟨.eor, .mem (.abs a)⟩
  | .eorAbx a => ⟨.eor, .mem (.abx a)⟩
  | .eorAby a => ⟨.eor, .mem (.aby a)⟩
  | .eorIzx n => ⟨.eor, .mem (.izx n)⟩
  | .eorIzy n => ⟨.eor, .mem (.izy n)⟩
  | .tax => ⟨.tax, .imp⟩
  | .txa => ⟨.txa, .imp⟩
  | .tay => ⟨.tay, .imp⟩
  | .tya => ⟨.tya, .imp⟩
  | .tsx => ⟨.tsx, .imp⟩
  | .txs => ⟨.txs, .imp⟩
  | .clc => ⟨.clc, .imp⟩
  | .sec => ⟨.sec, .imp⟩
  | .cld => ⟨.cld, .imp⟩
  | .sed => ⟨.sed, .imp⟩
  | .cli => ⟨.cli, .imp⟩
  | .sei => ⟨.sei, .imp⟩
  | .clv => ⟨.clv, .imp⟩
  | .pha => ⟨.pha, .imp⟩
  | .pla => ⟨.pla, .imp⟩
  | .php => ⟨.php, .imp⟩
  | .plp => ⟨.plp, .imp⟩
  | .nop => ⟨.nop, .imp⟩
  | .brk => ⟨.brk, .imp⟩

/-- The mnemonic of an instruction. -/
def Instr.mnemonic (i : Instr) : Mnemonic := i.line.mnemonic

/-- The operand of an instruction. -/
def Instr.operand (i : Instr) : Operand := i.line.operand

/-- The addressing mode of an instruction. -/
def Instr.mode (i : Instr) : Mode := i.line.operand.mode

end Sys2Proof
end

