-- ==== Sys2Proof/WellFormed.lean ====
section
/-! DEFINITION. Which assembly lines exist, and which branch targets can be encoded. The fields of `Instr` are exactly as wide as the
encoding's, so every term of `Instr` is well formed; the checks below refuse lines and targets that no instruction stands for. -/

namespace Sys2Proof

/-- The addressing modes the table gives a mnemonic (30_encoding.md R96). -/
def Mnemonic.modes : Mnemonic → List Mode
  | .lda => [.imm, .zp, .zpx, .abs, .abx, .aby, .izx, .izy]
  | .ldx => [.imm, .zp, .zpy, .abs, .aby]
  | .ldy => [.imm, .zp, .zpx, .abs, .abx]
  | .sta => [.zp, .zpx, .abs, .abx, .aby, .izx, .izy]
  | .stx => [.zp, .zpy, .abs]
  | .sty => [.zp, .zpx, .abs]
  | .cmp => [.imm, .zp, .zpx, .abs, .abx, .aby, .izx, .izy]
  | .cpx => [.imm, .zp, .abs]
  | .cpy => [.imm, .zp, .abs]
  | .bpl => [.rel]
  | .bmi => [.rel]
  | .bvc => [.rel]
  | .bvs => [.rel]
  | .bcc => [.rel]
  | .bcs => [.rel]
  | .bne => [.rel]
  | .beq => [.rel]
  | .asl => [.acc, .zp, .zpx, .abs, .abx]
  | .lsr => [.acc, .zp, .zpx, .abs, .abx]
  | .rol => [.acc, .zp, .zpx, .abs, .abx]
  | .ror => [.acc, .zp, .zpx, .abs, .abx]
  | .jsr => [.abs]
  | .rts => [.imp]
  | .jmp => [.abs, .ind]
  | .rti => [.imp]
  | .inc => [.zp, .zpx, .abs, .abx]
  | .dec => [.zp, .zpx, .abs, .abx]
  | .inx => [.imp]
  | .dex => [.imp]
  | .iny => [.imp]
  | .dey => [.imp]
  | .adc => [.imm, .zp, .zpx, .abs, .abx, .aby, .izx, .izy]
  | .sbc => [.imm, .zp, .zpx, .abs, .abx, .aby, .izx, .izy]
  | .bit => [.zp, .abs]
  | .and => [.imm, .zp, .zpx, .abs, .abx, .aby, .izx, .izy]
  | .ora => [.imm, .zp, .zpx, .abs, .abx, .aby, .izx, .izy]
  | .eor => [.imm, .zp, .zpx, .abs, .abx, .aby, .izx, .izy]
  | .tax => [.imp]
  | .txa => [.imp]
  | .tay => [.imp]
  | .tya => [.imp]
  | .tsx => [.imp]
  | .txs => [.imp]
  | .clc => [.imp]
  | .sec => [.imp]
  | .cld => [.imp]
  | .sed => [.imp]
  | .cli => [.imp]
  | .sei => [.imp]
  | .clv => [.imp]
  | .pha => [.imp]
  | .pla => [.imp]
  | .php => [.imp]
  | .plp => [.imp]
  | .nop => [.imp]
  | .brk => [.imp]

/-- Check: the table has a row of this mnemonic in this mode ("There is no immediate form of any store, shift, INC, DEC, BIT or jump",
30_encoding.md R85). -/
def Line.wf (l : Line) : Bool := l.operand.mode ∈ l.mnemonic.modes

/-- Check: an instruction stands in the table under its own mnemonic and mode. -/
def Instr.wf (i : Instr) : Bool := i.line.wf

/-- Check: the branch at `pc0` can reach `target`: the distance from the next instruction is -128..+127, mod 65536 (30_encoding.md R95:
"A target out of the -128..+127 range cannot be encoded; an assembler must reject it"). -/
def branchReaches (pc0 target : Addr) : Bool :=
  let dist := (target - (pc0 + 2)).toInt
  decide (-128 ≤ dist) && decide (dist ≤ 127)

end Sys2Proof
end

