-- ==== Sys2Proof/Decode.lean ====
section
/-! DEFINITION. The decoder, total on any bytes, and the encoder (30_encoding.md R80, R81, R96, R100). -/

namespace Sys2Proof

/-- What an opcode byte selects: an instruction that still needs no, one or two operand bytes (the formats F1, F2, F3 of
30_encoding.md R81), or nothing: the byte is one of the 105 of R98. -/
inductive Format where
  | f1 (i : Instr)
  | f2 (make : Byte → Instr)
  | f3 (make : Addr → Instr)
  | unlisted

/-- The opcode bytes $00 to $0F (30_encoding.md R96, R99). -/
def opcodeRow0 : List Format :=
  [.f1 .brk, .f2 .oraIzx, .unlisted, .unlisted,
   .unlisted, .f2 .oraZp, .f2 .aslZp, .unlisted,
   .f1 .php, .f2 .oraImm, .f1 .aslAcc, .unlisted,
   .unlisted, .f3 .oraAbs, .f3 .aslAbs, .unlisted]

/-- The opcode bytes $10 to $1F (30_encoding.md R96, R99). -/
def opcodeRow1 : List Format :=
  [.f2 .bpl, .f2 .oraIzy, .unlisted, .unlisted,
   .unlisted, .f2 .oraZpx, .f2 .aslZpx, .unlisted,
   .f1 .clc, .f3 .oraAby, .unlisted, .unlisted,
   .unlisted, .f3 .oraAbx, .f3 .aslAbx, .unlisted]

/-- The opcode bytes $20 to $2F (30_encoding.md R96, R99). -/
def opcodeRow2 : List Format :=
  [.f3 .jsrAbs, .f2 .andIzx, .unlisted, .unlisted,
   .f2 .bitZp, .f2 .andZp, .f2 .rolZp, .unlisted,
   .f1 .plp, .f2 .andImm, .f1 .rolAcc, .unlisted,
   .f3 .bitAbs, .f3 .andAbs, .f3 .rolAbs, .unlisted]

/-- The opcode bytes $30 to $3F (30_encoding.md R96, R99). -/
def opcodeRow3 : List Format :=
  [.f2 .bmi, .f2 .andIzy, .unlisted, .unlisted,
   .unlisted, .f2 .andZpx, .f2 .rolZpx, .unlisted,
   .f1 .sec, .f3 .andAby, .unlisted, .unlisted,
   .unlisted, .f3 .andAbx, .f3 .rolAbx, .unlisted]

/-- The opcode bytes $40 to $4F (30_encoding.md R96, R99). -/
def opcodeRow4 : List Format :=
  [.f1 .rti, .f2 .eorIzx, .unlisted, .unlisted,
   .unlisted, .f2 .eorZp, .f2 .lsrZp, .unlisted,
   .f1 .pha, .f2 .eorImm, .f1 .lsrAcc, .unlisted,
   .f3 .jmpAbs, .f3 .eorAbs, .f3 .lsrAbs, .unlisted]

/-- The opcode bytes $50 to $5F (30_encoding.md R96, R99). -/
def opcodeRow5 : List Format :=
  [.f2 .bvc, .f2 .eorIzy, .unlisted, .unlisted,
   .unlisted, .f2 .eorZpx, .f2 .lsrZpx, .unlisted,
   .f1 .cli, .f3 .eorAby, .unlisted, .unlisted,
   .unlisted, .f3 .eorAbx, .f3 .lsrAbx, .unlisted]

/-- The opcode bytes $60 to $6F (30_encoding.md R96, R99). -/
def opcodeRow6 : List Format :=
  [.f1 .rts, .f2 .adcIzx, .unlisted, .unlisted,
   .unlisted, .f2 .adcZp, .f2 .rorZp, .unlisted,
   .f1 .pla, .f2 .adcImm, .f1 .rorAcc, .unlisted,
   .f3 .jmpInd, .f3 .adcAbs, .f3 .rorAbs, .unlisted]

/-- The opcode bytes $70 to $7F (30_encoding.md R96, R99). -/
def opcodeRow7 : List Format :=
  [.f2 .bvs, .f2 .adcIzy, .unlisted, .unlisted,
   .unlisted, .f2 .adcZpx, .f2 .rorZpx, .unlisted,
   .f1 .sei, .f3 .adcAby, .unlisted, .unlisted,
   .unlisted, .f3 .adcAbx, .f3 .rorAbx, .unlisted]

/-- The opcode bytes $80 to $8F (30_encoding.md R96, R99). -/
def opcodeRow8 : List Format :=
  [.unlisted, .f2 .staIzx, .unlisted, .unlisted,
   .f2 .styZp, .f2 .staZp, .f2 .stxZp, .unlisted,
   .f1 .dey, .unlisted, .f1 .txa, .unlisted,
   .f3 .styAbs, .f3 .staAbs, .f3 .stxAbs, .unlisted]

/-- The opcode bytes $90 to $9F (30_encoding.md R96, R99). -/
def opcodeRow9 : List Format :=
  [.f2 .bcc, .f2 .staIzy, .unlisted, .unlisted,
   .f2 .styZpx, .f2 .staZpx, .f2 .stxZpy, .unlisted,
   .f1 .tya, .f3 .staAby, .f1 .txs, .unlisted,
   .unlisted, .f3 .staAbx, .unlisted, .unlisted]

/-- The opcode bytes $A0 to $AF (30_encoding.md R96, R99). -/
def opcodeRowA : List Format :=
  [.f2 .ldyImm, .f2 .ldaIzx, .f2 .ldxImm, .unlisted,
   .f2 .ldyZp, .f2 .ldaZp, .f2 .ldxZp, .unlisted,
   .f1 .tay, .f2 .ldaImm, .f1 .tax, .unlisted,
   .f3 .ldyAbs, .f3 .ldaAbs, .f3 .ldxAbs, .unlisted]

/-- The opcode bytes $B0 to $BF (30_encoding.md R96, R99). -/
def opcodeRowB : List Format :=
  [.f2 .bcs, .f2 .ldaIzy, .unlisted, .unlisted,
   .f2 .ldyZpx, .f2 .ldaZpx, .f2 .ldxZpy, .unlisted,
   .f1 .clv, .f3 .ldaAby, .f1 .tsx, .unlisted,
   .f3 .ldyAbx, .f3 .ldaAbx, .f3 .ldxAby, .unlisted]

/-- The opcode bytes $C0 to $CF (30_encoding.md R96, R99). -/
def opcodeRowC : List Format :=
  [.f2 .cpyImm, .f2 .cmpIzx, .unlisted, .unlisted,
   .f2 .cpyZp, .f2 .cmpZp, .f2 .decZp, .unlisted,
   .f1 .iny, .f2 .cmpImm, .f1 .dex, .unlisted,
   .f3 .cpyAbs, .f3 .cmpAbs, .f3 .decAbs, .unlisted]

/-- The opcode bytes $D0 to $DF (30_encoding.md R96, R99). -/
def opcodeRowD : List Format :=
  [.f2 .bne, .f2 .cmpIzy, .unlisted, .unlisted,
   .unlisted, .f2 .cmpZpx, .f2 .decZpx, .unlisted,
   .f1 .cld, .f3 .cmpAby, .unlisted, .unlisted,
   .unlisted, .f3 .cmpAbx, .f3 .decAbx, .unlisted]

/-- The opcode bytes $E0 to $EF (30_encoding.md R96, R99). -/
def opcodeRowE : List Format :=
  [.f2 .cpxImm, .f2 .sbcIzx, .unlisted, .unlisted,
   .f2 .cpxZp, .f2 .sbcZp, .f2 .incZp, .unlisted,
   .f1 .inx, .f2 .sbcImm, .f1 .nop, .unlisted,
   .f3 .cpxAbs, .f3 .sbcAbs, .f3 .incAbs, .unlisted]

/-- The opcode bytes $F0 to $FF (30_encoding.md R96, R99). -/
def opcodeRowF : List Format :=
  [.f2 .beq, .f2 .sbcIzy, .unlisted, .unlisted,
   .unlisted, .f2 .sbcZpx, .f2 .incZpx, .unlisted,
   .f1 .sed, .f3 .sbcAby, .unlisted, .unlisted,
   .unlisted, .f3 .sbcAbx, .f3 .incAbx, .unlisted]

/-- The opcode table as the matrix of 30_encoding.md R99: row = high digit of the byte, column = low digit. -/
def opcodeMatrix : List (List Format) :=
  [opcodeRow0, opcodeRow1, opcodeRow2, opcodeRow3, opcodeRow4, opcodeRow5, opcodeRow6, opcodeRow7,
   opcodeRow8, opcodeRow9, opcodeRowA, opcodeRowB, opcodeRowC, opcodeRowD, opcodeRowE, opcodeRowF]

/-- The opcode table (30_encoding.md R96, R98): a lookup on all 8 bits of the byte. -/
def formatOf (op : Byte) : Format :=
  (opcodeMatrix.getD (op.toNat / 16) []).getD (op.toNat % 16) .unlisted

/-- Why a list of bytes holds no instruction at its head. -/
inductive DecodeError where
  /-- The first byte is one of the 105 the table does not list (30_encoding.md R98). -/
  | illegalOpcode (op : Byte)
  /-- The list ends before the instruction does. -/
  | truncated
deriving DecidableEq, Repr

/-- The instruction at the head of a list of bytes and the bytes after it (30_encoding.md R100). Operand bytes stand low byte first
(20_memory.md R52). -/
def decode : List Byte → Except DecodeError (Instr × List Byte)
  | [] => .error .truncated
  | op :: rest =>
    match formatOf op, rest with
    | .unlisted, _ => .error (.illegalOpcode op)
    | .f1 i, bs => .ok (i, bs)
    | .f2 f, b1 :: bs => .ok (f b1, bs)
    | .f3 f, b1 :: b2 :: bs => .ok (f (mkAddr b2 b1), bs)
    | .f2 _, [] => .error .truncated
    | .f3 _, _ => .error .truncated

/-- The opcode byte of an instruction (30_encoding.md R96, column hex). -/
def Instr.opcode : Instr → Byte
  | .ldaImm _ => 0xA9#8
  | .ldaZp _ => 0xA5#8
  | .ldaZpx _ => 0xB5#8
  | .ldaAbs _ => 0xAD#8
  | .ldaAbx _ => 0xBD#8
  | .ldaAby _ => 0xB9#8
  | .ldaIzx _ => 0xA1#8
  | .ldaIzy _ => 0xB1#8
  | .ldxImm _ => 0xA2#8
  | .ldxZp _ => 0xA6#8
  | .ldxZpy _ => 0xB6#8
  | .ldxAbs _ => 0xAE#8
  | .ldxAby _ => 0xBE#8
  | .ldyImm _ => 0xA0#8
  | .ldyZp _ => 0xA4#8
  | .ldyZpx _ => 0xB4#8
  | .ldyAbs _ => 0xAC#8
  | .ldyAbx _ => 0xBC#8
  | .staZp _ => 0x85#8
  | .staZpx _ => 0x95#8
  | .staAbs _ => 0x8D#8
  | .staAbx _ => 0x9D#8
  | .staAby _ => 0x99#8
  | .staIzx _ => 0x81#8
  | .staIzy _ => 0x91#8
  | .stxZp _ => 0x86#8
  | .stxZpy _ => 0x96#8
  | .stxAbs _ => 0x8E#8
  | .styZp _ => 0x84#8
  | .styZpx _ => 0x94#8
  | .styAbs _ => 0x8C#8
  | .cmpImm _ => 0xC9#8
  | .cmpZp _ => 0xC5#8
  | .cmpZpx _ => 0xD5#8
  | .cmpAbs _ => 0xCD#8
  | .cmpAbx _ => 0xDD#8
  | .cmpAby _ => 0xD9#8
  | .cmpIzx _ => 0xC1#8
  | .cmpIzy _ => 0xD1#8
  | .cpxImm _ => 0xE0#8
  | .cpxZp _ => 0xE4#8
  | .cpxAbs _ => 0xEC#8
  | .cpyImm _ => 0xC0#8
  | .cpyZp _ => 0xC4#8
  | .cpyAbs _ => 0xCC#8
  | .bpl _ => 0x10#8
  | .bmi _ => 0x30#8
  | .bvc _ => 0x50#8
  | .bvs _ => 0x70#8
  | .bcc _ => 0x90#8
  | .bcs _ => 0xB0#8
  | .bne _ => 0xD0#8
  | .beq _ => 0xF0#8
  | .aslAcc => 0x0A#8
  | .aslZp _ => 0x06#8
  | .aslZpx _ => 0x16#8
  | .aslAbs _ => 0x0E#8
  | .aslAbx _ => 0x1E#8
  | .lsrAcc => 0x4A#8
  | .lsrZp _ => 0x46#8
  | .lsrZpx _ => 0x56#8
  | .lsrAbs _ => 0x4E#8
  | .lsrAbx _ => 0x5E#8
  | .rolAcc => 0x2A#8
  | .rolZp _ => 0x26#8
  | .rolZpx _ => 0x36#8
  | .rolAbs _ => 0x2E#8
  | .rolAbx _ => 0x3E#8
  | .rorAcc => 0x6A#8
  | .rorZp _ => 0x66#8
  | .rorZpx _ => 0x76#8
  | .rorAbs _ => 0x6E#8
  | .rorAbx _ => 0x7E#8
  | .jsrAbs _ => 0x20#8
  | .rts => 0x60#8
  | .jmpAbs _ => 0x4C#8
  | .jmpInd _ => 0x6C#8
  | .rti => 0x40#8
  | .incZp _ => 0xE6#8
  | .incZpx _ => 0xF6#8
  | .incAbs _ => 0xEE#8
  | .incAbx _ => 0xFE#8
  | .decZp _ => 0xC6#8
  | .decZpx _ => 0xD6#8
  | .decAbs _ => 0xCE#8
  | .decAbx _ => 0xDE#8
  | .inx => 0xE8#8
  | .dex => 0xCA#8
  | .iny => 0xC8#8
  | .dey => 0x88#8
  | .adcImm _ => 0x69#8
  | .adcZp _ => 0x65#8
  | .adcZpx _ => 0x75#8
  | .adcAbs _ => 0x6D#8
  | .adcAbx _ => 0x7D#8
  | .adcAby _ => 0x79#8
  | .adcIzx _ => 0x61#8
  | .adcIzy _ => 0x71#8
  | .sbcImm _ => 0xE9#8
  | .sbcZp _ => 0xE5#8
  | .sbcZpx _ => 0xF5#8
  | .sbcAbs _ => 0xED#8
  | .sbcAbx _ => 0xFD#8
  | .sbcAby _ => 0xF9#8
  | .sbcIzx _ => 0xE1#8
  | .sbcIzy _ => 0xF1#8
  | .bitZp _ => 0x24#8
  | .bitAbs _ => 0x2C#8
  | .andImm _ => 0x29#8
  | .andZp _ => 0x25#8
  | .andZpx _ => 0x35#8
  | .andAbs _ => 0x2D#8
  | .andAbx _ => 0x3D#8
  | .andAby _ => 0x39#8
  | .andIzx _ => 0x21#8
  | .andIzy _ => 0x31#8
  | .oraImm _ => 0x09#8
  | .oraZp _ => 0x05#8
  | .oraZpx _ => 0x15#8
  | .oraAbs _ => 0x0D#8
  | .oraAbx _ => 0x1D#8
  | .oraAby _ => 0x19#8
  | .oraIzx _ => 0x01#8
  | .oraIzy _ => 0x11#8
  | .eorImm _ => 0x49#8
  | .eorZp _ => 0x45#8
  | .eorZpx _ => 0x55#8
  | .eorAbs _ => 0x4D#8
  | .eorAbx _ => 0x5D#8
  | .eorAby _ => 0x59#8
  | .eorIzx _ => 0x41#8
  | .eorIzy _ => 0x51#8
  | .tax => 0xAA#8
  | .txa => 0x8A#8
  | .tay => 0xA8#8
  | .tya => 0x98#8
  | .tsx => 0xBA#8
  | .txs => 0x9A#8
  | .clc => 0x18#8
  | .sec => 0x38#8
  | .cld => 0xD8#8
  | .sed => 0xF8#8
  | .cli => 0x58#8
  | .sei => 0x78#8
  | .clv => 0xB8#8
  | .pha => 0x48#8
  | .pla => 0x68#8
  | .php => 0x08#8
  | .plp => 0x28#8
  | .nop => 0xEA#8
  | .brk => 0x00#8

/-- The bytes of a 16-bit operand, low byte first (20_memory.md R52). -/
def addrBytes (a : Addr) : List Byte := [loByte a, hiByte a]

/-- The operand bytes of a memory operand (30_encoding.md R82). -/
def MemMode.bytes : MemMode → List Byte
  | .zp n => [n]
  | .zpx n => [n]
  | .zpy n => [n]
  | .abs a => addrBytes a
  | .abx a => addrBytes a
  | .aby a => addrBytes a
  | .izx n => [n]
  | .izy n => [n]

/-- The operand bytes of an operand (30_encoding.md R82). -/
def Operand.bytes : Operand → List Byte
  | .imp => []
  | .acc => []
  | .imm n => [n]
  | .mem m => m.bytes
  | .ind a => addrBytes a
  | .rel d => [d]

/-- The bytes of an instruction in ascending address order (30_encoding.md R80). -/
def encode (i : Instr) : List Byte := i.opcode :: i.operand.bytes

/-- The length of an instruction of a mode, in bytes (30_encoding.md R82). BRK is one byte long (R97). -/
def Mode.length : Mode → Nat
  | .imp => 1
  | .acc => 1
  | .imm => 2
  | .zp => 2
  | .zpx => 2
  | .zpy => 2
  | .abs => 3
  | .abx => 3
  | .aby => 3
  | .ind => 3
  | .izx => 2
  | .izy => 2
  | .rel => 2

/-- The length of an instruction (30_encoding.md R82). -/
def Instr.length (i : Instr) : Nat := i.mode.length

/-- The three lowest-addressed bytes of an instruction whose bits are `w`, numbered as spec/opcode_table.json numbers them: byte 0 is bits
7..0. Bits at `nbits` and above are 0. -/
def tableBytes (nbits w : Nat) : List Byte :=
  let v := w % 2 ^ nbits
  [BitVec.ofNat 8 v, BitVec.ofNat 8 (v / 256), BitVec.ofNat 8 (v / 65536)]

/-- The instruction the decoder reads from a row of the opcode table. -/
def decodeTableWord (nbits w : Nat) : Option Instr :=
  match decode (tableBytes nbits w) with
  | .ok (i, _) => some i
  | .error _ => none

end Sys2Proof
end

