-- ==== Sys2Proof/Machine/Operands.lean ====
section
/-! DEFINITION. Every operand form of the 13 addressing modes (30_encoding.md R83 to R95): the effective address, the operand value, the
operand of a shift, the branch target. -/

namespace Sys2Proof.Machine

/-- The operand of an instruction that reads a value: the operand byte itself, or a memory location. -/
inductive Source where
  /-- `#$nn` (R85) -/
  | imm (n : Byte)
  | mem (m : MemMode)
deriving DecidableEq, Repr

/-- The operand of a shift or rotate. -/
inductive Target where
  /-- `A` (R84) -/
  | acc
  | mem (m : MemMode)
deriving DecidableEq, Repr

/-- The effective address `EA` of a memory operand, and the state after the pointer reads the mode makes (30_encoding.md R86 to R91, R93,
R94; wrap rules 20_memory.md R66). -/
def effAddr (m : MemMode) (s : State) : Addr × State :=
  match m with
  | .zp n => (zeroPage n, s)
  | .zpx n => (zeroPage (n + s.x), s)
  | .zpy n => (zeroPage (n + s.y), s)
  | .abs a => (a, s)
  | .abx a => (a + zext16 s.x, s)
  | .aby a => (a + zext16 s.y, s)
  | .izx n => read16zp (n + s.x) s
  | .izy n => ((read16zp n s).1 + zext16 s.y, (read16zp n s).2)

/-- The operand value `M` and the state after the reads (00_scope.md R7). -/
def readSource (src : Source) (s : State) : Byte × State :=
  match src with
  | .imm n => (n, s)
  | .mem m => memRead (effAddr m s).1 (effAddr m s).2

/-- The length of an instruction with a memory operand (30_encoding.md R82). -/
def memLength (m : MemMode) : Nat := m.mode.length

/-- The length of an instruction with this operand (30_encoding.md R82). -/
def sourceLength (src : Source) : Nat :=
  match src with
  | .imm _ => Mode.imm.length
  | .mem m => memLength m

/-- The length of a shift or rotate with this operand (30_encoding.md R82). -/
def targetLength (t : Target) : Nat :=
  match t with
  | .acc => Mode.acc.length
  | .mem m => memLength m

/-- The target of a branch at `pc0`, counted from the instruction after it (30_encoding.md R95). -/
def branchTarget (pc0 : Addr) (d : Byte) : Addr := (pc0 + 2) + sext16 d

end Sys2Proof.Machine
end

