-- ==== Sys2Proof/Machine/ArithLogic.lean ====
section
/-! DEFINITION. ADC SBC BIT AND ORA EOR: arithmetic and logic (46_arith_logic.md). -/

namespace Sys2Proof.Machine

/-- ADC (R221): A and the flags N, V, Z, C from `adcResult`. -/
def addWithCarry (src : Source) (s : State) : State :=
  let m := readSource src s
  let t := adcResult s.a m.1 s.p
  ((m.2.setA t.r).setP (s.p.arith t)).advance (sourceLength src)

/-- SBC (R222): A and the flags N, V, Z, C from `sbcResult`. -/
def subWithCarry (src : Source) (s : State) : State :=
  let m := readSource src s
  let t := sbcResult s.a m.1 s.p
  ((m.2.setA t.r).setP (s.p.arith t)).advance (sourceLength src)

/-- BIT (R223): no register is written. -/
def testBits (m : MemMode) (s : State) : State :=
  let v := readSource (.mem m) s
  (v.2.setP (s.p.bitTest s.a v.1)).advance (memLength m)

/-- AND, ORA, EOR (R224 to R226): A becomes `f` of A and the operand, N and Z from the result. -/
def logic (f : Byte → Byte → Byte) (src : Source) (s : State) : State :=
  let m := readSource src s
  ((m.2.setA (f s.a m.1)).setP (s.p.setNZ (f s.a m.1))).advance (sourceLength src)

/-- $69 `ADC #$nn` (R221). -/
def execAdcImm (n : Byte) (s : State) : Host.Outcome State Fault Refusal :=
  .next (addWithCarry (.imm n) s)

/-- $65 `ADC $nn` (R221). -/
def execAdcZp (n : Byte) (s : State) : Host.Outcome State Fault Refusal :=
  .next (addWithCarry (.mem (.zp n)) s)

/-- $75 `ADC $nn,X` (R221). -/
def execAdcZpx (n : Byte) (s : State) : Host.Outcome State Fault Refusal :=
  .next (addWithCarry (.mem (.zpx n)) s)

/-- $6D `ADC $hhll` (R221). -/
def execAdcAbs (a : Addr) (s : State) : Host.Outcome State Fault Refusal :=
  .next (addWithCarry (.mem (.abs a)) s)

/-- $7D `ADC $hhll,X` (R221). -/
def execAdcAbx (a : Addr) (s : State) : Host.Outcome State Fault Refusal :=
  .next (addWithCarry (.mem (.abx a)) s)

/-- $79 `ADC $hhll,Y` (R221). -/
def execAdcAby (a : Addr) (s : State) : Host.Outcome State Fault Refusal :=
  .next (addWithCarry (.mem (.aby a)) s)

/-- $61 `ADC ($nn,X)` (R221). -/
def execAdcIzx (n : Byte) (s : State) : Host.Outcome State Fault Refusal :=
  .next (addWithCarry (.mem (.izx n)) s)

/-- $71 `ADC ($nn),Y` (R221). -/
def execAdcIzy (n : Byte) (s : State) : Host.Outcome State Fault Refusal :=
  .next (addWithCarry (.mem (.izy n)) s)

/-- $E9 `SBC #$nn` (R222). -/
def execSbcImm (n : Byte) (s : State) : Host.Outcome State Fault Refusal :=
  .next (subWithCarry (.imm n) s)

/-- $E5 `SBC $nn` (R222). -/
def execSbcZp (n : Byte) (s : State) : Host.Outcome State Fault Refusal :=
  .next (subWithCarry (.mem (.zp n)) s)

/-- $F5 `SBC $nn,X` (R222). -/
def execSbcZpx (n : Byte) (s : State) : Host.Outcome State Fault Refusal :=
  .next (subWithCarry (.mem (.zpx n)) s)

/-- $ED `SBC $hhll` (R222). -/
def execSbcAbs (a : Addr) (s : State) : Host.Outcome State Fault Refusal :=
  .next (subWithCarry (.mem (.abs a)) s)

/-- $FD `SBC $hhll,X` (R222). -/
def execSbcAbx (a : Addr) (s : State) : Host.Outcome State Fault Refusal :=
  .next (subWithCarry (.mem (.abx a)) s)

/-- $F9 `SBC $hhll,Y` (R222). -/
def execSbcAby (a : Addr) (s : State) : Host.Outcome State Fault Refusal :=
  .next (subWithCarry (.mem (.aby a)) s)

/-- $E1 `SBC ($nn,X)` (R222). -/
def execSbcIzx (n : Byte) (s : State) : Host.Outcome State Fault Refusal :=
  .next (subWithCarry (.mem (.izx n)) s)

/-- $F1 `SBC ($nn),Y` (R222). -/
def execSbcIzy (n : Byte) (s : State) : Host.Outcome State Fault Refusal :=
  .next (subWithCarry (.mem (.izy n)) s)

/-- $24 `BIT $nn` (R223). -/
def execBitZp (n : Byte) (s : State) : Host.Outcome State Fault Refusal :=
  .next (testBits (.zp n) s)

/-- $2C `BIT $hhll` (R223). -/
def execBitAbs (a : Addr) (s : State) : Host.Outcome State Fault Refusal :=
  .next (testBits (.abs a) s)

/-- $29 `AND #$nn` (R224). -/
def execAndImm (n : Byte) (s : State) : Host.Outcome State Fault Refusal :=
  .next (logic (fun u v => u &&& v) (.imm n) s)

/-- $25 `AND $nn` (R224). -/
def execAndZp (n : Byte) (s : State) : Host.Outcome State Fault Refusal :=
  .next (logic (fun u v => u &&& v) (.mem (.zp n)) s)

/-- $35 `AND $nn,X` (R224). -/
def execAndZpx (n : Byte) (s : State) : Host.Outcome State Fault Refusal :=
  .next (logic (fun u v => u &&& v) (.mem (.zpx n)) s)

/-- $2D `AND $hhll` (R224). -/
def execAndAbs (a : Addr) (s : State) : Host.Outcome State Fault Refusal :=
  .next (logic (fun u v => u &&& v) (.mem (.abs a)) s)

/-- $3D `AND $hhll,X` (R224). -/
def execAndAbx (a : Addr) (s : State) : Host.Outcome State Fault Refusal :=
  .next (logic (fun u v => u &&& v) (.mem (.abx a)) s)

/-- $39 `AND $hhll,Y` (R224). -/
def execAndAby (a : Addr) (s : State) : Host.Outcome State Fault Refusal :=
  .next (logic (fun u v => u &&& v) (.mem (.aby a)) s)

/-- $21 `AND ($nn,X)` (R224). -/
def execAndIzx (n : Byte) (s : State) : Host.Outcome State Fault Refusal :=
  .next (logic (fun u v => u &&& v) (.mem (.izx n)) s)

/-- $31 `AND ($nn),Y` (R224). -/
def execAndIzy (n : Byte) (s : State) : Host.Outcome State Fault Refusal :=
  .next (logic (fun u v => u &&& v) (.mem (.izy n)) s)

/-- $09 `ORA #$nn` (R225). -/
def execOraImm (n : Byte) (s : State) : Host.Outcome State Fault Refusal :=
  .next (logic (fun u v => u ||| v) (.imm n) s)

/-- $05 `ORA $nn` (R225). -/
def execOraZp (n : Byte) (s : State) : Host.Outcome State Fault Refusal :=
  .next (logic (fun u v => u ||| v) (.mem (.zp n)) s)

/-- $15 `ORA $nn,X` (R225). -/
def execOraZpx (n : Byte) (s : State) : Host.Outcome State Fault Refusal :=
  .next (logic (fun u v => u ||| v) (.mem (.zpx n)) s)

/-- $0D `ORA $hhll` (R225). -/
def execOraAbs (a : Addr) (s : State) : Host.Outcome State Fault Refusal :=
  .next (logic (fun u v => u ||| v) (.mem (.abs a)) s)

/-- $1D `ORA $hhll,X` (R225). -/
def execOraAbx (a : Addr) (s : State) : Host.Outcome State Fault Refusal :=
  .next (logic (fun u v => u ||| v) (.mem (.abx a)) s)

/-- $19 `ORA $hhll,Y` (R225). -/
def execOraAby (a : Addr) (s : State) : Host.Outcome State Fault Refusal :=
  .next (logic (fun u v => u ||| v) (.mem (.aby a)) s)

/-- $01 `ORA ($nn,X)` (R225). -/
def execOraIzx (n : Byte) (s : State) : Host.Outcome State Fault Refusal :=
  .next (logic (fun u v => u ||| v) (.mem (.izx n)) s)

/-- $11 `ORA ($nn),Y` (R225). -/
def execOraIzy (n : Byte) (s : State) : Host.Outcome State Fault Refusal :=
  .next (logic (fun u v => u ||| v) (.mem (.izy n)) s)

/-- $49 `EOR #$nn` (R226). -/
def execEorImm (n : Byte) (s : State) : Host.Outcome State Fault Refusal :=
  .next (logic (fun u v => u ^^^ v) (.imm n) s)

/-- $45 `EOR $nn` (R226). -/
def execEorZp (n : Byte) (s : State) : Host.Outcome State Fault Refusal :=
  .next (logic (fun u v => u ^^^ v) (.mem (.zp n)) s)

/-- $55 `EOR $nn,X` (R226). -/
def execEorZpx (n : Byte) (s : State) : Host.Outcome State Fault Refusal :=
  .next (logic (fun u v => u ^^^ v) (.mem (.zpx n)) s)

/-- $4D `EOR $hhll` (R226). -/
def execEorAbs (a : Addr) (s : State) : Host.Outcome State Fault Refusal :=
  .next (logic (fun u v => u ^^^ v) (.mem (.abs a)) s)

/-- $5D `EOR $hhll,X` (R226). -/
def execEorAbx (a : Addr) (s : State) : Host.Outcome State Fault Refusal :=
  .next (logic (fun u v => u ^^^ v) (.mem (.abx a)) s)

/-- $59 `EOR $hhll,Y` (R226). -/
def execEorAby (a : Addr) (s : State) : Host.Outcome State Fault Refusal :=
  .next (logic (fun u v => u ^^^ v) (.mem (.aby a)) s)

/-- $41 `EOR ($nn,X)` (R226). -/
def execEorIzx (n : Byte) (s : State) : Host.Outcome State Fault Refusal :=
  .next (logic (fun u v => u ^^^ v) (.mem (.izx n)) s)

/-- $51 `EOR ($nn),Y` (R226). -/
def execEorIzy (n : Byte) (s : State) : Host.Outcome State Fault Refusal :=
  .next (logic (fun u v => u ^^^ v) (.mem (.izy n)) s)

end Sys2Proof.Machine
end

