-- ==== Sys2Proof/Machine/Branch.lean ====
section
/-! DEFINITION. the eight conditional branches (42_branch.md). -/

namespace Sys2Proof.Machine

/-- A conditional branch: the displacement counts from the next instruction (R150). -/
def branch (cond : Bool) (d : Byte) (s : State) : State :=
  if cond then s.setPc (branchTarget s.pc d) else s.setPc (s.pc + 2)

/-- $10 `BPL $hhll (target)` (R151). -/
def execBpl (d : Byte) (s : State) : Host.Outcome State Fault Refusal :=
  .next (branch (!s.p.n) d s)

/-- $30 `BMI $hhll (target)` (R152). -/
def execBmi (d : Byte) (s : State) : Host.Outcome State Fault Refusal :=
  .next (branch s.p.n d s)

/-- $50 `BVC $hhll (target)` (R153). -/
def execBvc (d : Byte) (s : State) : Host.Outcome State Fault Refusal :=
  .next (branch (!s.p.v) d s)

/-- $70 `BVS $hhll (target)` (R154). -/
def execBvs (d : Byte) (s : State) : Host.Outcome State Fault Refusal :=
  .next (branch s.p.v d s)

/-- $90 `BCC $hhll (target)` (R155). -/
def execBcc (d : Byte) (s : State) : Host.Outcome State Fault Refusal :=
  .next (branch (!s.p.c) d s)

/-- $B0 `BCS $hhll (target)` (R156). -/
def execBcs (d : Byte) (s : State) : Host.Outcome State Fault Refusal :=
  .next (branch s.p.c d s)

/-- $D0 `BNE $hhll (target)` (R157). -/
def execBne (d : Byte) (s : State) : Host.Outcome State Fault Refusal :=
  .next (branch (!s.p.z) d s)

/-- $F0 `BEQ $hhll (target)` (R158). -/
def execBeq (d : Byte) (s : State) : Host.Outcome State Fault Refusal :=
  .next (branch s.p.z d s)

end Sys2Proof.Machine
end

