-- ==== Sys2Proof/Machine/Compare.lean ====
section
/-! DEFINITION. CMP CPX CPY: compares (41_compare.md). -/

namespace Sys2Proof.Machine

/-- Compares a register with the operand: N, Z, C as if it had been subtracted; no register is written (R140). -/
def compareWith (reg : Byte) (src : Source) (s : State) : State :=
  let m := readSource src s
  (m.2.setP (s.p.compare reg m.1)).advance (sourceLength src)

/-- $C9 `CMP #$nn` (R140). -/
def execCmpImm (n : Byte) (s : State) : Host.Outcome State Fault Refusal :=
  .next (compareWith s.a (.imm n) s)

/-- $C5 `CMP $nn` (R140). -/
def execCmpZp (n : Byte) (s : State) : Host.Outcome State Fault Refusal :=
  .next (compareWith s.a (.mem (.zp n)) s)

/-- $D5 `CMP $nn,X` (R140). -/
def execCmpZpx (n : Byte) (s : State) : Host.Outcome State Fault Refusal :=
  .next (compareWith s.a (.mem (.zpx n)) s)

/-- $CD `CMP $hhll` (R140). -/
def execCmpAbs (a : Addr) (s : State) : Host.Outcome State Fault Refusal :=
  .next (compareWith s.a (.mem (.abs a)) s)

/-- $DD `CMP $hhll,X` (R140). -/
def execCmpAbx (a : Addr) (s : State) : Host.Outcome State Fault Refusal :=
  .next (compareWith s.a (.mem (.abx a)) s)

/-- $D9 `CMP $hhll,Y` (R140). -/
def execCmpAby (a : Addr) (s : State) : Host.Outcome State Fault Refusal :=
  .next (compareWith s.a (.mem (.aby a)) s)

/-- $C1 `CMP ($nn,X)` (R140). -/
def execCmpIzx (n : Byte) (s : State) : Host.Outcome State Fault Refusal :=
  .next (compareWith s.a (.mem (.izx n)) s)

/-- $D1 `CMP ($nn),Y` (R140). -/
def execCmpIzy (n : Byte) (s : State) : Host.Outcome State Fault Refusal :=
  .next (compareWith s.a (.mem (.izy n)) s)

/-- $E0 `CPX #$nn` (R141). -/
def execCpxImm (n : Byte) (s : State) : Host.Outcome State Fault Refusal :=
  .next (compareWith s.x (.imm n) s)

/-- $E4 `CPX $nn` (R141). -/
def execCpxZp (n : Byte) (s : State) : Host.Outcome State Fault Refusal :=
  .next (compareWith s.x (.mem (.zp n)) s)

/-- $EC `CPX $hhll` (R141). -/
def execCpxAbs (a : Addr) (s : State) : Host.Outcome State Fault Refusal :=
  .next (compareWith s.x (.mem (.abs a)) s)

/-- $C0 `CPY #$nn` (R142). -/
def execCpyImm (n : Byte) (s : State) : Host.Outcome State Fault Refusal :=
  .next (compareWith s.y (.imm n) s)

/-- $C4 `CPY $nn` (R142). -/
def execCpyZp (n : Byte) (s : State) : Host.Outcome State Fault Refusal :=
  .next (compareWith s.y (.mem (.zp n)) s)

/-- $CC `CPY $hhll` (R142). -/
def execCpyAbs (a : Addr) (s : State) : Host.Outcome State Fault Refusal :=
  .next (compareWith s.y (.mem (.abs a)) s)

end Sys2Proof.Machine
end

