-- ==== Sys2Proof/Machine/Counter.lean ====
section
/-! DEFINITION. INC DEC INX DEX INY DEY: counters, always binary, mod 256 (45_counter.md). -/

namespace Sys2Proof.Machine

/-- Reads the byte at the effective address, writes `f` of it back and sets N and Z; the Carry is not touched (R200, R201). -/
def modifyMem (f : Byte → Byte) (m : MemMode) (s : State) : State :=
  let ea := effAddr m s
  let v := memRead ea.1 ea.2
  ((memWrite ea.1 (f v.1) v.2).setP (s.p.setNZ (f v.1))).advance (memLength m)

/-- $E6 `INC $nn` (R200). -/
def execIncZp (n : Byte) (s : State) : Host.Outcome State Fault Refusal :=
  .next (modifyMem (fun v => v + 1) (.zp n) s)

/-- $F6 `INC $nn,X` (R200). -/
def execIncZpx (n : Byte) (s : State) : Host.Outcome State Fault Refusal :=
  .next (modifyMem (fun v => v + 1) (.zpx n) s)

/-- $EE `INC $hhll` (R200). -/
def execIncAbs (a : Addr) (s : State) : Host.Outcome State Fault Refusal :=
  .next (modifyMem (fun v => v + 1) (.abs a) s)

/-- $FE `INC $hhll,X` (R200). -/
def execIncAbx (a : Addr) (s : State) : Host.Outcome State Fault Refusal :=
  .next (modifyMem (fun v => v + 1) (.abx a) s)

/-- $C6 `DEC $nn` (R201). -/
def execDecZp (n : Byte) (s : State) : Host.Outcome State Fault Refusal :=
  .next (modifyMem (fun v => v - 1) (.zp n) s)

/-- $D6 `DEC $nn,X` (R201). -/
def execDecZpx (n : Byte) (s : State) : Host.Outcome State Fault Refusal :=
  .next (modifyMem (fun v => v - 1) (.zpx n) s)

/-- $CE `DEC $hhll` (R201). -/
def execDecAbs (a : Addr) (s : State) : Host.Outcome State Fault Refusal :=
  .next (modifyMem (fun v => v - 1) (.abs a) s)

/-- $DE `DEC $hhll,X` (R201). -/
def execDecAbx (a : Addr) (s : State) : Host.Outcome State Fault Refusal :=
  .next (modifyMem (fun v => v - 1) (.abx a) s)

/-- $E8 `INX` (R202). -/
def execInx (s : State) : Host.Outcome State Fault Refusal :=
  .next (((s.setX (s.x + 1)).setP (s.p.setNZ (s.x + 1))).advance 1)

/-- $CA `DEX` (R203). -/
def execDex (s : State) : Host.Outcome State Fault Refusal :=
  .next (((s.setX (s.x - 1)).setP (s.p.setNZ (s.x - 1))).advance 1)

/-- $C8 `INY` (R204). -/
def execIny (s : State) : Host.Outcome State Fault Refusal :=
  .next (((s.setY (s.y + 1)).setP (s.p.setNZ (s.y + 1))).advance 1)

/-- $88 `DEY` (R205). -/
def execDey (s : State) : Host.Outcome State Fault Refusal :=
  .next (((s.setY (s.y - 1)).setP (s.p.setNZ (s.y - 1))).advance 1)

end Sys2Proof.Machine
end

