-- ==== Sys2Proof/Machine/FlagSetClear.lean ====
section
/-! DEFINITION. CLC SEC CLD SED CLI SEI CLV: one flag written, nothing else (48_flag_set_clear.md). -/

namespace Sys2Proof.Machine

/-- Writes I, and records the I before: the IRQ decision at the next boundary may use either (60_exceptions.md R304). -/
def writeI (b : Bool) (s : State) : State := ((s.setP { s.p with i := b }).setIBefore (some s.p.i)).advance 1

/-- $18 `CLC` (R260). -/
def execClc (s : State) : Host.Outcome State Fault Refusal :=
  .next ((s.setP { s.p with c := false }).advance 1)

/-- $38 `SEC` (R261). -/
def execSec (s : State) : Host.Outcome State Fault Refusal :=
  .next ((s.setP { s.p with c := true }).advance 1)

/-- $D8 `CLD` (R262). -/
def execCld (s : State) : Host.Outcome State Fault Refusal :=
  .next ((s.setP { s.p with d := false }).advance 1)

/-- $F8 `SED` (R263). -/
def execSed (s : State) : Host.Outcome State Fault Refusal :=
  .next ((s.setP { s.p with d := true }).advance 1)

/-- $58 `CLI` (R264). -/
def execCli (s : State) : Host.Outcome State Fault Refusal :=
  .next (writeI false s)

/-- $78 `SEI` (R265). -/
def execSei (s : State) : Host.Outcome State Fault Refusal :=
  .next (writeI true s)

/-- $B8 `CLV` (R266). -/
def execClv (s : State) : Host.Outcome State Fault Refusal :=
  .next ((s.setP { s.p with v := false }).advance 1)

end Sys2Proof.Machine
end

