-- ==== Sys2Proof/Machine/JumpReturn.lean ====
section
/-! DEFINITION. JSR RTS JMP RTI: jumps, subroutines, return from interrupt (44_jump_return.md). -/

namespace Sys2Proof.Machine

/-- The address of the last byte of a JSR, which it pushes: `pc0 +_16 2` (R190). -/
def jsrReturn (s : State) : Addr := s.pc + 2

/-- $20 `JSR $hhll` (R190). -/
def execJsrAbs (a : Addr) (s : State) : Host.Outcome State Fault Refusal :=
  .next ((pushAddr (jsrReturn s) s).setPc a)

/-- $60 `RTS` (R191). -/
def execRts (s : State) : Host.Outcome State Fault Refusal :=
  .next ((pullAddr s).2.setPc ((pullAddr s).1 + 1))

/-- $4C `JMP $hhll` (R192). -/
def execJmpAbs (a : Addr) (s : State) : Host.Outcome State Fault Refusal :=
  .next (s.setPc a)

/-- $6C `JMP ($hhll)` (R192). -/
def execJmpInd (a : Addr) (s : State) : Host.Outcome State Fault Refusal :=
  .next ((read16page a s).2.setPc (read16page a s).1)

/-- $40 `RTI` (R193). -/
def execRti (s : State) : Host.Outcome State Fault Refusal :=
  .next (returnFromInterrupt s)

end Sys2Proof.Machine
end

