-- ==== Sys2Proof/Machine/LoadStore.lean ====
section
/-! DEFINITION. LDA LDX LDY STA STX STY: loads and stores (40_load_store.md). -/

namespace Sys2Proof.Machine

/-- Loads one byte into A (R120). -/
def loadA (src : Source) (s : State) : State :=
  let m := readSource src s
  ((m.2.setA m.1).setP (s.p.setNZ m.1)).advance (sourceLength src)

/-- Loads one byte into X (R121). -/
def loadX (src : Source) (s : State) : State :=
  let m := readSource src s
  ((m.2.setX m.1).setP (s.p.setNZ m.1)).advance (sourceLength src)

/-- Loads one byte into Y (R122). -/
def loadY (src : Source) (s : State) : State :=
  let m := readSource src s
  ((m.2.setY m.1).setP (s.p.setNZ m.1)).advance (sourceLength src)

/-- Stores a byte at the effective address: no read there, no flag written (R123 to R125). -/
def storeByte (v : Byte) (m : MemMode) (s : State) : State :=
  (memWrite (effAddr m s).1 v (effAddr m s).2).advance (memLength m)

/-- $A9 `LDA #$nn` (R120). -/
def execLdaImm (n : Byte) (s : State) : Host.Outcome State Fault Refusal :=
  .next (loadA (.imm n) s)

/-- $A5 `LDA $nn` (R120). -/
def execLdaZp (n : Byte) (s : State) : Host.Outcome State Fault Refusal :=
  .next (loadA (.mem (.zp n)) s)

/-- $B5 `LDA $nn,X` (R120). -/
def execLdaZpx (n : Byte) (s : State) : Host.Outcome State Fault Refusal :=
  .next (loadA (.mem (.zpx n)) s)

/-- $AD `LDA $hhll` (R120). -/
def execLdaAbs (a : Addr) (s : State) : Host.Outcome State Fault Refusal :=
  .next (loadA (.mem (.abs a)) s)

/-- $BD `LDA $hhll,X` (R120). -/
def execLdaAbx (a : Addr) (s : State) : Host.Outcome State Fault Refusal :=
  .next (loadA (.mem (.abx a)) s)

/-- $B9 `LDA $hhll,Y` (R120). -/
def execLdaAby (a : Addr) (s : State) : Host.Outcome State Fault Refusal :=
  .next (loadA (.mem (.aby a)) s)

/-- $A1 `LDA ($nn,X)` (R120). -/
def execLdaIzx (n : Byte) (s : State) : Host.Outcome State Fault Refusal :=
  .next (loadA (.mem (.izx n)) s)

/-- $B1 `LDA ($nn),Y` (R120). -/
def execLdaIzy (n : Byte) (s : State) : Host.Outcome State Fault Refusal :=
  .next (loadA (.mem (.izy n)) s)

/-- $A2 `LDX #$nn` (R121). -/
def execLdxImm (n : Byte) (s : State) : Host.Outcome State Fault Refusal :=
  .next (loadX (.imm n) s)

/-- $A6 `LDX $nn` (R121). -/
def execLdxZp (n : Byte) (s : State) : Host.Outcome State Fault Refusal :=
  .next (loadX (.mem (.zp n)) s)

/-- $B6 `LDX $nn,Y` (R121). -/
def execLdxZpy (n : Byte) (s : State) : Host.Outcome State Fault Refusal :=
  .next (loadX (.mem (.zpy n)) s)

/-- $AE `LDX $hhll` (R121). -/
def execLdxAbs (a : Addr) (s : State) : Host.Outcome State Fault Refusal :=
  .next (loadX (.mem (.abs a)) s)

/-- $BE `LDX $hhll,Y` (R121). -/
def execLdxAby (a : Addr) (s : State) : Host.Outcome State Fault Refusal :=
  .next (loadX (.mem (.aby a)) s)

/-- $A0 `LDY #$nn` (R122). -/
def execLdyImm (n : Byte) (s : State) : Host.Outcome State Fault Refusal :=
  .next (loadY (.imm n) s)

/-- $A4 `LDY $nn` (R122). -/
def execLdyZp (n : Byte) (s : State) : Host.Outcome State Fault Refusal :=
  .next (loadY (.mem (.zp n)) s)

/-- $B4 `LDY $nn,X` (R122). -/
def execLdyZpx (n : Byte) (s : State) : Host.Outcome State Fault Refusal :=
  .next (loadY (.mem (.zpx n)) s)

/-- $AC `LDY $hhll` (R122). -/
def execLdyAbs (a : Addr) (s : State) : Host.Outcome State Fault Refusal :=
  .next (loadY (.mem (.abs a)) s)

/-- $BC `LDY $hhll,X` (R122). -/
def execLdyAbx (a : Addr) (s : State) : Host.Outcome State Fault Refusal :=
  .next (loadY (.mem (.abx a)) s)

/-- $85 `STA $nn` (R123). -/
def execStaZp (n : Byte) (s : State) : Host.Outcome State Fault Refusal :=
  .next (storeByte s.a (.zp n) s)

/-- $95 `STA $nn,X` (R123). -/
def execStaZpx (n : Byte) (s : State) : Host.Outcome State Fault Refusal :=
  .next (storeByte s.a (.zpx n) s)

/-- $8D `STA $hhll` (R123). -/
def execStaAbs (a : Addr) (s : State) : Host.Outcome State Fault Refusal :=
  .next (storeByte s.a (.abs a) s)

/-- $9D `STA $hhll,X` (R123). -/
def execStaAbx (a : Addr) (s : State) : Host.Outcome State Fault Refusal :=
  .next (storeByte s.a (.abx a) s)

/-- $99 `STA $hhll,Y` (R123). -/
def execStaAby (a : Addr) (s : State) : Host.Outcome State Fault Refusal :=
  .next (storeByte s.a (.aby a) s)

/-- $81 `STA ($nn,X)` (R123). -/
def execStaIzx (n : Byte) (s : State) : Host.Outcome State Fault Refusal :=
  .next (storeByte s.a (.izx n) s)

/-- $91 `STA ($nn),Y` (R123). -/
def execStaIzy (n : Byte) (s : State) : Host.Outcome State Fault Refusal :=
  .next (storeByte s.a (.izy n) s)

/-- $86 `STX $nn` (R124). -/
def execStxZp (n : Byte) (s : State) : Host.Outcome State Fault Refusal :=
  .next (storeByte s.x (.zp n) s)

/-- $96 `STX $nn,Y` (R124). -/
def execStxZpy (n : Byte) (s : State) : Host.Outcome State Fault Refusal :=
  .next (storeByte s.x (.zpy n) s)

/-- $8E `STX $hhll` (R124). -/
def execStxAbs (a : Addr) (s : State) : Host.Outcome State Fault Refusal :=
  .next (storeByte s.x (.abs a) s)

/-- $84 `STY $nn` (R125). -/
def execStyZp (n : Byte) (s : State) : Host.Outcome State Fault Refusal :=
  .next (storeByte s.y (.zp n) s)

/-- $94 `STY $nn,X` (R125). -/
def execStyZpx (n : Byte) (s : State) : Host.Outcome State Fault Refusal :=
  .next (storeByte s.y (.zpx n) s)

/-- $8C `STY $hhll` (R125). -/
def execStyAbs (a : Addr) (s : State) : Host.Outcome State Fault Refusal :=
  .next (storeByte s.y (.abs a) s)

end Sys2Proof.Machine
end

