-- ==== Sys2Proof/Machine/ShiftRotate.lean ====
section
/-! DEFINITION. ASL LSR ROL ROR: shifts and rotates by one position (43_shift_rotate.md). -/

namespace Sys2Proof.Machine

/-- ASL: `r = v[6:0] : 0`, `c = v[7]` (R171). -/
def aslFn (v : Byte) (_ : Bool) : Byte × Bool := (v.extractLsb' 0 7 ++ 0#1, v.getLsbD 7)

/-- LSR: `r = 0 : v[7:1]`, `c = v[0]` (R172). -/
def lsrFn (v : Byte) (_ : Bool) : Byte × Bool := (0#1 ++ v.extractLsb' 1 7, v.getLsbD 0)

/-- ROL: `r = v[6:0] : cin`, `c = v[7]` (R173). -/
def rolFn (v : Byte) (cin : Bool) : Byte × Bool := (v.extractLsb' 0 7 ++ BitVec.ofBool cin, v.getLsbD 7)

/-- ROR: `r = cin : v[7:1]`, `c = v[0]` (R174). -/
def rorFn (v : Byte) (cin : Bool) : Byte × Bool := (BitVec.ofBool cin ++ v.extractLsb' 1 7, v.getLsbD 0)

/-- A shift or rotate of A, or of a memory location by one read and one write at the same address (R170). -/
def shiftBy (f : Byte → Bool → Byte × Bool) (t : Target) (s : State) : State :=
  match t with
  | .acc =>
    let r := f s.a s.p.c
    ((s.setA r.1).setP (s.p.shift r.1 r.2)).advance (targetLength .acc)
  | .mem m =>
    let ea := effAddr m s
    let v := memRead ea.1 ea.2
    let r := f v.1 s.p.c
    ((memWrite ea.1 r.1 v.2).setP (s.p.shift r.1 r.2)).advance (targetLength (.mem m))

/-- $0A `ASL A` (R171). -/
def execAslAcc (s : State) : Host.Outcome State Fault Refusal :=
  .next (shiftBy aslFn .acc s)

/-- $06 `ASL $nn` (R171). -/
def execAslZp (n : Byte) (s : State) : Host.Outcome State Fault Refusal :=
  .next (shiftBy aslFn (.mem (.zp n)) s)

/-- $16 `ASL $nn,X` (R171). -/
def execAslZpx (n : Byte) (s : State) : Host.Outcome State Fault Refusal :=
  .next (shiftBy aslFn (.mem (.zpx n)) s)

/-- $0E `ASL $hhll` (R171). -/
def execAslAbs (a : Addr) (s : State) : Host.Outcome State Fault Refusal :=
  .next (shiftBy aslFn (.mem (.abs a)) s)

/-- $1E `ASL $hhll,X` (R171). -/
def execAslAbx (a : Addr) (s : State) : Host.Outcome State Fault Refusal :=
  .next (shiftBy aslFn (.mem (.abx a)) s)

/-- $4A `LSR A` (R172). -/
def execLsrAcc (s : State) : Host.Outcome State Fault Refusal :=
  .next (shiftBy lsrFn .acc s)

/-- $46 `LSR $nn` (R172). -/
def execLsrZp (n : Byte) (s : State) : Host.Outcome State Fault Refusal :=
  .next (shiftBy lsrFn (.mem (.zp n)) s)

/-- $56 `LSR $nn,X` (R172). -/
def execLsrZpx (n : Byte) (s : State) : Host.Outcome State Fault Refusal :=
  .next (shiftBy lsrFn (.mem (.zpx n)) s)

/-- $4E `LSR $hhll` (R172). -/
def execLsrAbs (a : Addr) (s : State) : Host.Outcome State Fault Refusal :=
  .next (shiftBy lsrFn (.mem (.abs a)) s)

/-- $5E `LSR $hhll,X` (R172). -/
def execLsrAbx (a : Addr) (s : State) : Host.Outcome State Fault Refusal :=
  .next (shiftBy lsrFn (.mem (.abx a)) s)

/-- $2A `ROL A` (R173). -/
def execRolAcc (s : State) : Host.Outcome State Fault Refusal :=
  .next (shiftBy rolFn .acc s)

/-- $26 `ROL $nn` (R173). -/
def execRolZp (n : Byte) (s : State) : Host.Outcome State Fault Refusal :=
  .next (shiftBy rolFn (.mem (.zp n)) s)

/-- $36 `ROL $nn,X` (R173). -/
def execRolZpx (n : Byte) (s : State) : Host.Outcome State Fault Refusal :=
  .next (shiftBy rolFn (.mem (.zpx n)) s)

/-- $2E `ROL $hhll` (R173). -/
def execRolAbs (a : Addr) (s : State) : Host.Outcome State Fault Refusal :=
  .next (shiftBy rolFn (.mem (.abs a)) s)

/-- $3E `ROL $hhll,X` (R173). -/
def execRolAbx (a : Addr) (s : State) : Host.Outcome State Fault Refusal :=
  .next (shiftBy rolFn (.mem (.abx a)) s)

/-- $6A `ROR A` (R174). -/
def execRorAcc (s : State) : Host.Outcome State Fault Refusal :=
  .next (shiftBy rorFn .acc s)

/-- $66 `ROR $nn` (R174). -/
def execRorZp (n : Byte) (s : State) : Host.Outcome State Fault Refusal :=
  .next (shiftBy rorFn (.mem (.zp n)) s)

/-- $76 `ROR $nn,X` (R174). -/
def execRorZpx (n : Byte) (s : State) : Host.Outcome State Fault Refusal :=
  .next (shiftBy rorFn (.mem (.zpx n)) s)

/-- $6E `ROR $hhll` (R174). -/
def execRorAbs (a : Addr) (s : State) : Host.Outcome State Fault Refusal :=
  .next (shiftBy rorFn (.mem (.abs a)) s)

/-- $7E `ROR $hhll,X` (R174). -/
def execRorAbx (a : Addr) (s : State) : Host.Outcome State Fault Refusal :=
  .next (shiftBy rorFn (.mem (.abx a)) s)

end Sys2Proof.Machine
end

