-- ==== Sys2Proof/Machine/StackMisc.lean ====
section
/-! DEFINITION. PHA PLA PHP PLP NOP BRK (49_stack_misc.md). -/

namespace Sys2Proof.Machine

/-- $48 `PHA` (R280). -/
def execPha (s : State) : Host.Outcome State Fault Refusal :=
  .next ((push s.a s).advance 1)

/-- $68 `PLA` (R281). -/
def execPla (s : State) : Host.Outcome State Fault Refusal :=
  .next ((((pull s).2.setA (pull s).1).setP (s.p.setNZ (pull s).1)).advance 1)

/-- $08 `PHP` (R282). -/
def execPhp (s : State) : Host.Outcome State Fault Refusal :=
  .next ((push (s.p.pack true) s).advance 1)

/-- $28 `PLP` (R283). -/
def execPlp (s : State) : Host.Outcome State Fault Refusal :=
  .next ((((pull s).2.setP (Flags.unpack (pull s).1)).setIBefore (some s.p.i)).advance 1)

/-- $EA `NOP` (R284). -/
def execNop (s : State) : Host.Outcome State Fault Refusal :=
  .next (s.advance 1)

/-- $00 `BRK` (R285). -/
def execBrk (s : State) : Host.Outcome State Fault Refusal :=
  .next (enterInterrupt (s.pc + 2) true irqVector s)

end Sys2Proof.Machine
end

