-- ==== Sys2Proof/Machine/Transfer.lean ====
section
/-! DEFINITION. TAX TXA TAY TYA TSX TXS: register transfers (47_transfer.md). -/

namespace Sys2Proof.Machine

/-- $AA `TAX` (R250). -/
def execTax (s : State) : Host.Outcome State Fault Refusal :=
  .next (((s.setX s.a).setP (s.p.setNZ s.a)).advance 1)

/-- $8A `TXA` (R251). -/
def execTxa (s : State) : Host.Outcome State Fault Refusal :=
  .next (((s.setA s.x).setP (s.p.setNZ s.x)).advance 1)

/-- $A8 `TAY` (R252). -/
def execTay (s : State) : Host.Outcome State Fault Refusal :=
  .next (((s.setY s.a).setP (s.p.setNZ s.a)).advance 1)

/-- $98 `TYA` (R253). -/
def execTya (s : State) : Host.Outcome State Fault Refusal :=
  .next (((s.setA s.y).setP (s.p.setNZ s.y)).advance 1)

/-- $BA `TSX` (R254). -/
def execTsx (s : State) : Host.Outcome State Fault Refusal :=
  .next (((s.setX s.sp).setP (s.p.setNZ s.sp)).advance 1)

/-- $9A `TXS` (R255). -/
def execTxs (s : State) : Host.Outcome State Fault Refusal :=
  .next ((s.setSp s.x).advance 1)

end Sys2Proof.Machine
end

