-- ==== Sys2Proof/Machine/Dispatch.lean ====
section
/-! DEFINITION. What each instruction does: one arm per constructor, one definition per arm. -/

namespace Sys2Proof.Machine

def exec (i : Instr) (s : State) : Host.Outcome State Fault Refusal :=
  match i with
  -- 40_load_store.md
  | .ldaImm n => Sys2Proof.Machine.execLdaImm n s
  | .ldaZp n => Sys2Proof.Machine.execLdaZp n s
  | .ldaZpx n => Sys2Proof.Machine.execLdaZpx n s
  | .ldaAbs a => Sys2Proof.Machine.execLdaAbs a s
  | .ldaAbx a => Sys2Proof.Machine.execLdaAbx a s
  | .ldaAby a => Sys2Proof.Machine.execLdaAby a s
  | .ldaIzx n => Sys2Proof.Machine.execLdaIzx n s
  | .ldaIzy n => Sys2Proof.Machine.execLdaIzy n s
  | .ldxImm n => Sys2Proof.Machine.execLdxImm n s
  | .ldxZp n => Sys2Proof.Machine.execLdxZp n s
  | .ldxZpy n => Sys2Proof.Machine.execLdxZpy n s
  | .ldxAbs a => Sys2Proof.Machine.execLdxAbs a s
  | .ldxAby a => Sys2Proof.Machine.execLdxAby a s
  | .ldyImm n => Sys2Proof.Machine.execLdyImm n s
  | .ldyZp n => Sys2Proof.Machine.execLdyZp n s
  | .ldyZpx n => Sys2Proof.Machine.execLdyZpx n s
  | .ldyAbs a => Sys2Proof.Machine.execLdyAbs a s
  | .ldyAbx a => Sys2Proof.Machine.execLdyAbx a s
  | .staZp n => Sys2Proof.Machine.execStaZp n s
  | .staZpx n => Sys2Proof.Machine.execStaZpx n s
  | .staAbs a => Sys2Proof.Machine.execStaAbs a s
  | .staAbx a => Sys2Proof.Machine.execStaAbx a s
  | .staAby a => Sys2Proof.Machine.execStaAby a s
  | .staIzx n => Sys2Proof.Machine.execStaIzx n s
  | .staIzy n => Sys2Proof.Machine.execStaIzy n s
  | .stxZp n => Sys2Proof.Machine.execStxZp n s
  | .stxZpy n => Sys2Proof.Machine.execStxZpy n s
  | .stxAbs a => Sys2Proof.Machine.execStxAbs a s
  | .styZp n => Sys2Proof.Machine.execStyZp n s
  | .styZpx n => Sys2Proof.Machine.execStyZpx n s
  | .styAbs a => Sys2Proof.Machine.execStyAbs a s
  -- 41_compare.md
  | .cmpImm n => Sys2Proof.Machine.execCmpImm n s
  | .cmpZp n => Sys2Proof.Machine.execCmpZp n s
  | .cmpZpx n => Sys2Proof.Machine.execCmpZpx n s
  | .cmpAbs a => Sys2Proof.Machine.execCmpAbs a s
  | .cmpAbx a => Sys2Proof.Machine.execCmpAbx a s
  | .cmpAby a => Sys2Proof.Machine.execCmpAby a s
  | .cmpIzx n => Sys2Proof.Machine.execCmpIzx n s
  | .cmpIzy n => Sys2Proof.Machine.execCmpIzy n s
  | .cpxImm n => Sys2Proof.Machine.execCpxImm n s
  | .cpxZp n => Sys2Proof.Machine.execCpxZp n s
  | .cpxAbs a => Sys2Proof.Machine.execCpxAbs a s
  | .cpyImm n => Sys2Proof.Machine.execCpyImm n s
  | .cpyZp n => Sys2Proof.Machine.execCpyZp n s
  | .cpyAbs a => Sys2Proof.Machine.execCpyAbs a s
  -- 42_branch.md
  | .bpl d => Sys2Proof.Machine.execBpl d s
  | .bmi d => Sys2Proof.Machine.execBmi d s
  | .bvc d => Sys2Proof.Machine.execBvc d s
  | .bvs d => Sys2Proof.Machine.execBvs d s
  | .bcc d => Sys2Proof.Machine.execBcc d s
  | .bcs d => Sys2Proof.Machine.execBcs d s
  | .bne d => Sys2Proof.Machine.execBne d s
  | .beq d => Sys2Proof.Machine.execBeq d s
  -- 43_shift_rotate.md
  | .aslAcc => Sys2Proof.Machine.execAslAcc s
  | .aslZp n => Sys2Proof.Machine.execAslZp n s
  | .aslZpx n => Sys2Proof.Machine.execAslZpx n s
  | .aslAbs a => Sys2Proof.Machine.execAslAbs a s
  | .aslAbx a => Sys2Proof.Machine.execAslAbx a s
  | .lsrAcc => Sys2Proof.Machine.execLsrAcc s
  | .lsrZp n => Sys2Proof.Machine.execLsrZp n s
  | .lsrZpx n => Sys2Proof.Machine.execLsrZpx n s
  | .lsrAbs a => Sys2Proof.Machine.execLsrAbs a s
  | .lsrAbx a => Sys2Proof.Machine.execLsrAbx a s
  | .rolAcc => Sys2Proof.Machine.execRolAcc s
  | .rolZp n => Sys2Proof.Machine.execRolZp n s
  | .rolZpx n => Sys2Proof.Machine.execRolZpx n s
  | .rolAbs a => Sys2Proof.Machine.execRolAbs a s
  | .rolAbx a => Sys2Proof.Machine.execRolAbx a s
  | .rorAcc => Sys2Proof.Machine.execRorAcc s
  | .rorZp n => Sys2Proof.Machine.execRorZp n s
  | .rorZpx n => Sys2Proof.Machine.execRorZpx n s
  | .rorAbs a => Sys2Proof.Machine.execRorAbs a s
  | .rorAbx a => Sys2Proof.Machine.execRorAbx a s
  -- 44_jump_return.md
  | .jsrAbs a => Sys2Proof.Machine.execJsrAbs a s
  | .rts => Sys2Proof.Machine.execRts s
  | .jmpAbs a => Sys2Proof.Machine.execJmpAbs a s
  | .jmpInd a => Sys2Proof.Machine.execJmpInd a s
  | .rti => Sys2Proof.Machine.execRti s
  -- 45_counter.md
  | .incZp n => Sys2Proof.Machine.execIncZp n s
  | .incZpx n => Sys2Proof.Machine.execIncZpx n s
  | .incAbs a => Sys2Proof.Machine.execIncAbs a s
  | .incAbx a => Sys2Proof.Machine.execIncAbx a s
  | .decZp n => Sys2Proof.Machine.execDecZp n s
  | .decZpx n => Sys2Proof.Machine.execDecZpx n s
  | .decAbs a => Sys2Proof.Machine.execDecAbs a s
  | .decAbx a => Sys2Proof.Machine.execDecAbx a s
  | .inx => Sys2Proof.Machine.execInx s
  | .dex => Sys2Proof.Machine.execDex s
  | .iny => Sys2Proof.Machine.execIny s
  | .dey => Sys2Proof.Machine.execDey s
  -- 46_arith_logic.md
  | .adcImm n => Sys2Proof.Machine.execAdcImm n s
  | .adcZp n => Sys2Proof.Machine.execAdcZp n s
  | .adcZpx n => Sys2Proof.Machine.execAdcZpx n s
  | .adcAbs a => Sys2Proof.Machine.execAdcAbs a s
  | .adcAbx a => Sys2Proof.Machine.execAdcAbx a s
  | .adcAby a => Sys2Proof.Machine.execAdcAby a s
  | .adcIzx n => Sys2Proof.Machine.execAdcIzx n s
  | .adcIzy n => Sys2Proof.Machine.execAdcIzy n s
  | .sbcImm n => Sys2Proof.Machine.execSbcImm n s
  | .sbcZp n => Sys2Proof.Machine.execSbcZp n s
  | .sbcZpx n => Sys2Proof.Machine.execSbcZpx n s
  | .sbcAbs a => Sys2Proof.Machine.execSbcAbs a s
  | .sbcAbx a => Sys2Proof.Machine.execSbcAbx a s
  | .sbcAby a => Sys2Proof.Machine.execSbcAby a s
  | .sbcIzx n => Sys2Proof.Machine.execSbcIzx n s
  | .sbcIzy n => Sys2Proof.Machine.execSbcIzy n s
  | .bitZp n => Sys2Proof.Machine.execBitZp n s
  | .bitAbs a => Sys2Proof.Machine.execBitAbs a s
  | .andImm n => Sys2Proof.Machine.execAndImm n s
  | .andZp n => Sys2Proof.Machine.execAndZp n s
  | .andZpx n => Sys2Proof.Machine.execAndZpx n s
  | .andAbs a => Sys2Proof.Machine.execAndAbs a s
  | .andAbx a => Sys2Proof.Machine.execAndAbx a s
  | .andAby a => Sys2Proof.Machine.execAndAby a s
  | .andIzx n => Sys2Proof.Machine.execAndIzx n s
  | .andIzy n => Sys2Proof.Machine.execAndIzy n s
  | .oraImm n => Sys2Proof.Machine.execOraImm n s
  | .oraZp n => Sys2Proof.Machine.execOraZp n s
  | .oraZpx n => Sys2Proof.Machine.execOraZpx n s
  | .oraAbs a => Sys2Proof.Machine.execOraAbs a s
  | .oraAbx a => Sys2Proof.Machine.execOraAbx a s
  | .oraAby a => Sys2Proof.Machine.execOraAby a s
  | .oraIzx n => Sys2Proof.Machine.execOraIzx n s
  | .oraIzy n => Sys2Proof.Machine.execOraIzy n s
  | .eorImm n => Sys2Proof.Machine.execEorImm n s
  | .eorZp n => Sys2Proof.Machine.execEorZp n s
  | .eorZpx n => Sys2Proof.Machine.execEorZpx n s
  | .eorAbs a => Sys2Proof.Machine.execEorAbs a s
  | .eorAbx a => Sys2Proof.Machine.execEorAbx a s
  | .eorAby a => Sys2Proof.Machine.execEorAby a s
  | .eorIzx n => Sys2Proof.Machine.execEorIzx n s
  | .eorIzy n => Sys2Proof.Machine.execEorIzy n s
  -- 47_transfer.md
  | .tax => Sys2Proof.Machine.execTax s
  | .txa => Sys2Proof.Machine.execTxa s
  | .tay => Sys2Proof.Machine.execTay s
  | .tya => Sys2Proof.Machine.execTya s
  | .tsx => Sys2Proof.Machine.execTsx s
  | .txs => Sys2Proof.Machine.execTxs s
  -- 48_flag_set_clear.md
  | .clc => Sys2Proof.Machine.execClc s
  | .sec => Sys2Proof.Machine.execSec s
  | .cld => Sys2Proof.Machine.execCld s
  | .sed => Sys2Proof.Machine.execSed s
  | .cli => Sys2Proof.Machine.execCli s
  | .sei => Sys2Proof.Machine.execSei s
  | .clv => Sys2Proof.Machine.execClv s
  -- 49_stack_misc.md
  | .pha => Sys2Proof.Machine.execPha s
  | .pla => Sys2Proof.Machine.execPla s
  | .php => Sys2Proof.Machine.execPhp s
  | .plp => Sys2Proof.Machine.execPlp s
  | .nop => Sys2Proof.Machine.execNop s
  | .brk => Sys2Proof.Machine.execBrk s

end Sys2Proof.Machine
end

