-- ==== Sys2Proof/Machine/Execute.lean ====
section
/-! DEFINITION. Fetching an instruction through `MemRead` (30_encoding.md R80, R100), running it, and one whole step (60_exceptions.md
R317). -/

namespace Sys2Proof.Machine

/-- Fetches and decodes the instruction at pc: the opcode byte, then only the operand bytes its format calls for, in ascending address
order (30_encoding.md R80, R100). An unlisted byte is refused (R98). -/
def fetch (s : State) : Except Refusal (Instr × State) :=
  let op := memRead s.pc s
  match formatOf op.1 with
  | .unlisted => .error (.illegalOpcode op.1 s.pc)
  | .f1 i => .ok (i, op.2)
  | .f2 f =>
    let b1 := memRead (s.pc + 1) op.2
    .ok (f b1.1, b1.2)
  | .f3 f =>
    let b1 := memRead (s.pc + 1) op.2
    let b2 := memRead (s.pc + 2) b1.2
    .ok (f (mkAddr b2.1 b1.1), b2.2)

/-- `ExecuteInstruction(s)` (60_exceptions.md R317, 30_encoding.md R100). -/
def executeInstruction (s : State) : Host.Outcome State Fault Refusal :=
  match fetch s with
  | .error r => .refused r
  | .ok (i, s') => exec i s'

/-- One step: an entry or an instruction, as the boundary decides (60_exceptions.md R317). -/
def runStep (s : State) : Host.Outcome State Fault Refusal :=
  match boundary s with
  | (.reset, b) => .next (resetEntry b)
  | (.nmi, b) => .next (nmiEntry b)
  | (.irq, b) => .next (irqEntry b)
  | (.instruction, b) => executeInstruction b

/-- Stores a list of bytes in storage, whatever the map says, from an address on (addresses mod 65536). -/
def pokeBytes (a : Addr) (bs : List Byte) (m : Memory) : Memory :=
  match bs with
  | [] => m
  | b :: rest => pokeBytes (a + 1) rest (m.write a.toNat b)

/-- The map with the three bytes of the longest instruction at `a` made `ram`, unless they are storage already. -/
def fetchableMap (a : Addr) (b : BusMap) : BusMap :=
  if (b.kindAt a).isStorage && (b.kindAt (a + 1)).isStorage && (b.kindAt (a + 2)).isStorage then b
  else { first := a.toNat, last := a.toNat, kind := .ram } :: { first := (a + 1).toNat, last := (a + 1).toNat, kind := .ram } ::
    { first := (a + 2).toNat, last := (a + 2).toNat, kind := .ram } :: b

/-- The environment with no request at the next boundary. -/
def quietNext (env : List Inputs) : List Inputs :=
  Inputs.quiet :: env.tail

/-- Places the instruction of an opcode-table word where the next step fetches it, with no request at that boundary. Entry 16. -/
def placeWord (s : State) (nbits w : Nat) : State :=
  (((s.setMem (pokeBytes s.pc (tableBytes nbits w) s.mem)).setBus (fetchableMap s.pc s.bus)).setNmiPending false).setEnv
    (quietNext s.env)

end Sys2Proof.Machine
end

