-- ==== Sys2Proof/Machine/Step.lean ====
section
/-! DEFINITION. The step of the machine (60_exceptions.md R317), and placing an instruction where it fetches. -/

namespace Sys2Proof.Machine

/-- One step: one whole instruction, or one whole interrupt or reset entry (00_scope.md R8, 60_exceptions.md R317). -/
def step (s : State) : Host.Outcome State Fault Refusal := runStep s

/-- The state with an instruction's bits stored where `step` fetches its next instruction. Entry 16. -/
def State.withFetchWord (s : State) (nbits w : Nat) : State := placeWord s nbits w

end Sys2Proof.Machine
end

