-- ==== Sys2Proof/Machine/Assembly.lean ====
section
/-! DEFINITION. The assembler notation of the source (30_encoding.md R83 to R95, R101): the text of an instruction, and the displacement of
a branch to a target. The machine does not depend on it. -/

namespace Sys2Proof.Machine

/-- The three letters of a mnemonic (30_encoding.md R101). -/
def mnemonicText : Mnemonic → String
  | .lda => "LDA"
  | .ldx => "LDX"
  | .ldy => "LDY"
  | .sta => "STA"
  | .stx => "STX"
  | .sty => "STY"
  | .cmp => "CMP"
  | .cpx => "CPX"
  | .cpy => "CPY"
  | .bpl => "BPL"
  | .bmi => "BMI"
  | .bvc => "BVC"
  | .bvs => "BVS"
  | .bcc => "BCC"
  | .bcs => "BCS"
  | .bne => "BNE"
  | .beq => "BEQ"
  | .asl => "ASL"
  | .lsr => "LSR"
  | .rol => "ROL"
  | .ror => "ROR"
  | .jsr => "JSR"
  | .rts => "RTS"
  | .jmp => "JMP"
  | .rti => "RTI"
  | .inc => "INC"
  | .dec => "DEC"
  | .inx => "INX"
  | .dex => "DEX"
  | .iny => "INY"
  | .dey => "DEY"
  | .adc => "ADC"
  | .sbc => "SBC"
  | .bit => "BIT"
  | .and => "AND"
  | .ora => "ORA"
  | .eor => "EOR"
  | .tax => "TAX"
  | .txa => "TXA"
  | .tay => "TAY"
  | .tya => "TYA"
  | .tsx => "TSX"
  | .txs => "TXS"
  | .clc => "CLC"
  | .sec => "SEC"
  | .cld => "CLD"
  | .sed => "SED"
  | .cli => "CLI"
  | .sei => "SEI"
  | .clv => "CLV"
  | .pha => "PHA"
  | .pla => "PLA"
  | .php => "PHP"
  | .plp => "PLP"
  | .nop => "NOP"
  | .brk => "BRK"

/-- A hexadecimal digit. -/
def hexDigit (n : Nat) : String :=
  ["0", "1", "2", "3", "4", "5", "6", "7", "8", "9", "A", "B", "C", "D", "E", "F"].getD n ""

/-- `$nn` (30_encoding.md R101). -/
def hexByte (v : Byte) : String := "$" ++ hexDigit (v.toNat / 16) ++ hexDigit (v.toNat % 16)

/-- `$hhll` (30_encoding.md R101). -/
def hexAddr (a : Addr) : String :=
  "$" ++ hexDigit (a.toNat / 4096) ++ hexDigit (a.toNat / 256 % 16) ++ hexDigit (a.toNat / 16 % 16) ++ hexDigit (a.toNat % 16)

/-- The text of a memory operand (30_encoding.md R86 to R91, R93, R94). -/
def memText : MemMode → String
  | .zp n => " " ++ hexByte n
  | .zpx n => " " ++ hexByte n ++ ",X"
  | .zpy n => " " ++ hexByte n ++ ",Y"
  | .abs a => " " ++ hexAddr a
  | .abx a => " " ++ hexAddr a ++ ",X"
  | .aby a => " " ++ hexAddr a ++ ",Y"
  | .izx n => " (" ++ hexByte n ++ ",X)"
  | .izy n => " (" ++ hexByte n ++ "),Y"

/-- The text of an operand at the address `pc0` of its instruction: a branch shows its target (30_encoding.md R95), the accumulator form
shows `A` (90_conflicts.md C23). -/
def operandText (pc0 : Addr) : Operand → String
  | .imp => ""
  | .acc => " A"
  | .imm n => " #" ++ hexByte n
  | .mem m => memText m
  | .ind a => " (" ++ hexAddr a ++ ")"
  | .rel d => " " ++ hexAddr (branchTarget pc0 d)

/-- The text of the instruction at `pc0` (30_encoding.md R96, column syntax). -/
def instrText (pc0 : Addr) (i : Instr) : String := mnemonicText i.mnemonic ++ operandText pc0 i.operand

/-- The displacement an assembler stores for a branch at `pc0` to `target`; none where the target is out of range (30_encoding.md R95). -/
def branchDisplacement (pc0 target : Addr) : Option Byte :=
  if branchReaches pc0 target then some (loByte (target - (pc0 + 2))) else none

end Sys2Proof.Machine
end

