-- ==== Sys2Proof/Machine/Timing.lean ====
section
/-! DEFINITION. The `time` column and its two notes (70_reset_and_hazards.md R350 to R352): informative, functions of the instruction and
the state; no rule of the machine depends on them. Entry 14. -/

namespace Sys2Proof.Machine

/-- How a family uses memory, which decides its times (70_reset_and_hazards.md R350, the table by mode). -/
inductive AccessClass where
  | read
  | store
  | readModifyWrite
  | branch
  | other
deriving DecidableEq, Repr

/-- The class of a mnemonic. -/
def accessClass : Mnemonic → AccessClass
  | .lda | .ldx | .ldy | .cmp | .cpx | .cpy | .adc | .sbc | .bit | .and | .ora | .eor => .read
  | .sta | .stx | .sty => .store
  | .asl | .lsr | .rol | .ror | .inc | .dec => .readModifyWrite
  | .bpl | .bmi | .bvc | .bvs | .bcc | .bcs | .bne | .beq => .branch
  | .jsr | .rts | .jmp | .rti | .inx | .dex | .iny | .dey | .tax | .txa | .tay | .tya | .tsx | .txs => .other
  | .clc | .sec | .cld | .sed | .cli | .sei | .clv | .pha | .pla | .php | .plp | .nop | .brk => .other

/-- The times of the reading instructions by mode (70_reset_and_hazards.md R350). -/
def readTime : Mode → Nat
  | .zp => 3
  | .zpx | .zpy | .abs | .abx | .aby => 4
  | .izx => 6
  | .izy => 5
  | .imp | .acc | .imm | .ind | .rel => 2

/-- The times of the stores by mode (70_reset_and_hazards.md R350). -/
def storeTime : Mode → Nat
  | .zp => 3
  | .zpx | .zpy | .abs => 4
  | .abx | .aby => 5
  | .izx | .izy => 6
  | .imp | .acc | .imm | .ind | .rel => 2

/-- The times of the read-modify-write instructions by mode (70_reset_and_hazards.md R350; INC Absolute is 6, 90_conflicts.md C21). -/
def modifyTime : Mode → Nat
  | .zp => 5
  | .zpx | .zpy | .abs => 6
  | .abx | .aby => 7
  | .imp | .acc | .imm | .ind | .rel | .izx | .izy => 2

/-- The times of the other instructions (70_reset_and_hazards.md R350, "Others"). -/
def otherTime (m : Mnemonic) (mode : Mode) : Nat :=
  match m with
  | .brk => 7
  | .jsr | .rts | .rti => 6
  | .jmp => if mode = .ind then 5 else 3
  | .pla | .plp => 4
  | .pha | .php => 3
  | _ => 2

/-- The `time` column (30_encoding.md R96), without its notes. -/
def instrTime (i : Instr) : Nat :=
  match accessClass i.mnemonic with
  | .read => readTime i.mode
  | .store => storeTime i.mode
  | .readModifyWrite => modifyTime i.mode
  | .branch => 3
  | .other => otherTime i.mnemonic i.mode

/-- The flag test of a branch (42_branch.md R151 to R158); false for the other mnemonics. -/
def branchCondition (m : Mnemonic) (p : Flags) : Bool :=
  match m with
  | .bpl => !p.n
  | .bmi => p.n
  | .bvc => !p.v
  | .bvs => p.v
  | .bcc => !p.c
  | .bcs => p.c
  | .bne => !p.z
  | .beq => p.z
  | _ => false

/-- Two addresses are on different pages (00_scope.md R9). -/
def crossesPage (a b : Addr) : Bool := decide (hiByte a ≠ hiByte b)

/-- Whether indexing leaves the page of the base address, in the three modes whose rows carry the note (70_reset_and_hazards.md R351). -/
def indexCrosses (m : MemMode) (s : State) : Bool :=
  match m with
  | .abx a => crossesPage (a + zext16 s.x) a
  | .aby a => crossesPage (a + zext16 s.y) a
  | .izy n => crossesPage ((read16zp n s).1 + zext16 s.y) (read16zp n s).1
  | .zp _ | .zpx _ | .zpy _ | .abs _ | .izx _ => false

/-- The cycles an instruction takes in a state: the `time` column with the page-crossing note of the reading instructions (R351) and the
branch note (R352). -/
def cycles (i : Instr) (s : State) : Nat :=
  match accessClass i.mnemonic, i.operand with
  | .read, .mem m => instrTime i + (indexCrosses m s).toNat
  | .branch, .rel d =>
    if branchCondition i.mnemonic s.p then 3 + (crossesPage (branchTarget s.pc d) (s.pc + 2)).toNat else 2
  | _, _ => instrTime i

/-- The cycles of an IRQ, NMI or reset entry (60_exceptions.md R306, 70_reset_and_hazards.md R340). -/
def entryCycles : Nat := 7

/-- The cycles of the next step; none where it is refused. -/
def stepCycles (s : State) : Option Nat :=
  match boundary s with
  | (.instruction, b) =>
    match fetch b with
    | .ok (i, s') => some (cycles i s')
    | .error _ => none
  | (_, _) => some entryCycles

end Sys2Proof.Machine
end

