-- ==== Sys2Proof/Safety.lean ====
section
/-! DEFINITION. Runs and what claims say of them: the end of a run, the invariant, the states a claim may assume, and the operand of an
instruction in the terms of its meaning. -/

namespace Sys2Proof.Safety

open Sys2Proof.Machine

/-- How a run ended (70_reset_and_hazards.md R354). -/
inductive RunEnd where
  /-- The harness's predicate held. -/
  | halted (s : State)
  /-- A step was refused; the run carries the mark (00_scope.md R8). Safe. -/
  | refused (r : Refusal)
  /-- The number of steps was used up; the machine itself never stops. -/
  | running (s : State)
deriving DecidableEq, Repr

/-- A run of at most `fuel` steps to the harness's predicate `halt` (70_reset_and_hazards.md R354). Entry 15. -/
def runUntil (halt : State → Bool) (fuel : Nat) (s : State) : RunEnd :=
  if halt s then .halted s
  else
    match fuel with
    | 0 => .running s
    | k + 1 =>
      match step s with
      | .next t => runUntil halt k t
      | .refused r => .refused r

/-- The invariant of the machine: storage is in its canonical form. -/
def Inv (s : State) : Prop := s.mem.wf = true

/-- No request at the next boundary: the step is an instruction. -/
def QuietBoundary (s : State) : Prop := (boundary s).1 = .instruction

/-- No request in this boundary's inputs and none latched (60_exceptions.md R304). -/
def NoRequest (s : State) : Prop :=
  s.inputs.resetLine = false ∧ s.nmiPending = false ∧ s.inputs.nmiEdge = false ∧ s.inputs.irqLine = false

/-- Neither a latched nor a coming non-maskable request, ever. Claims that every BRK reaches its handler need it (60_exceptions.md R307). -/
def NmiFree (s : State) : Prop := s.nmiPending = false ∧ s.envEnd = .quiet ∧ ∀ e ∈ s.env, e.nmiEdge = false

/-- Every address is `ram`: the flat map of the test vectors (20_memory.md R59). -/
def FlatRam (s : State) : Prop := ∀ a : Addr, s.kindAt a = .ram

/-- No address is `io`. Claims that count or order accesses need it (70_reset_and_hazards.md R353). -/
def IoFree (s : State) : Prop := ∀ a : Addr, s.kindAt a ≠ .io

/-- An address whose reads return the stored byte. -/
def Stored (s : State) (a : Addr) : Prop := (s.kindAt a).isStorage = true

/-- Page one is `ram` (20_memory.md R59, "Constraints a usable `Bus` meets"). -/
def StackIsRam (s : State) : Prop := ∀ k : Byte, s.kindAt (stackAddr k) = .ram

/-- The pushes of a JSR at pc would overwrite its own third byte; the chip then differs (20_memory.md R64, U13). Claims exclude it. -/
def JsrOverwritesItself (s : State) : Prop := stackAddr s.sp = s.pc + 2 ∨ stackAddr (s.sp - 1) = s.pc + 2

/-- The operand of a reading instruction (30_encoding.md R85 to R94). -/
def sourceOf (i : Instr) : Option Source :=
  match i.operand with
  | .imm n => some (.imm n)
  | .mem m => some (.mem m)
  | .imp => none
  | .acc => none
  | .ind _ => none
  | .rel _ => none

/-- The memory operand of an instruction (30_encoding.md R86 to R94). -/
def memOf (i : Instr) : Option MemMode :=
  match i.operand with
  | .mem m => some m
  | .imm _ => none
  | .imp => none
  | .acc => none
  | .ind _ => none
  | .rel _ => none

/-- The byte at `b` after some writes, the latest first: only a `ram` location takes one (20_memory.md R51). -/
def peekAfterWrites (s : State) (writes : List (Addr × Byte)) (b : Addr) : Byte :=
  match writes with
  | [] => s.peek b
  | (a, v) :: earlier => if b = a ∧ s.kindAt a = .ram then v else peekAfterWrites s earlier b

/-- What the environment sees of some writes, the latest first (20_memory.md R51). -/
def ioWritten (s : State) (writes : List (Addr × Byte)) : List IoEvent :=
  match writes with
  | [] => []
  | (a, v) :: earlier => if s.kindAt a = .io then .write a v :: ioWritten s earlier else ioWritten s earlier

/-- The indexed modes (30_encoding.md R87, R88, R90, R91, R93, R94). -/
def isIndexed : Mode → Bool
  | .zpx | .zpy | .abx | .aby | .izx | .izy => true
  | .imp | .acc | .imm | .zp | .abs | .ind | .rel => false

/-- Whether a claim may count or order the `io` accesses of an instruction: not for the indexed, read-modify-write, stack and branch
instructions, whose dummy accesses the machine does not make (20_memory.md R60, 70_reset_and_hazards.md R353). Entry 11. -/
def ioAccessesClaimed (i : Instr) : Bool :=
  match accessClass i.mnemonic with
  | .read | .store => !isIndexed i.mode
  | .readModifyWrite => decide (i.mode = .acc)
  | .branch => false
  | .other => decide (i.mnemonic ∉ [Mnemonic.pha, .pla, .php, .plp, .jsr, .rts, .rti, .brk])

/-- `t` is `u` but for the `io` trace, of which it is said only that it stays where no address is `io` (70_reset_and_hazards.md R353). -/
def SameButIo (s u t : State) : Prop := t = { u with ioTrace := t.ioTrace } ∧ (IoFree s → t.ioTrace = s.ioTrace)

/-- `exec i s` answers `u`, with the `io` trace of `u` only for an instruction whose `io` accesses a claim may count (20_memory.md R60,
70_reset_and_hazards.md R353). Entry 11. -/
def Answers (i : Instr) (s u : State) : Prop :=
  ∃ t, exec i s = .next t ∧ SameButIo s u t ∧ (ioAccessesClaimed i = true → t.ioTrace = u.ioTrace)

/-- The pushes of an entry, the latest first: the return address high byte, low byte, then the status byte (60_exceptions.md R306). -/
def entryPushes (ret : Addr) (brk : Bool) (s : State) : List (Addr × Byte) :=
  [(stackAddr (s.sp - 2), s.p.pack brk), (stackAddr (s.sp - 1), loByte ret), (stackAddr s.sp, hiByte ret)]

/-- What an entry does: after the pushes, S is 3 lower and I is set, all else stays; then pc is read from the vector (60_exceptions.md
R306, 49_stack_misc.md R285). Of the `io` trace only that it stays where no address is `io` (entry 11). -/
def EntryEffect (ret : Addr) (brk : Bool) (vector : Addr) (s t : State) : Prop :=
  ∃ u : State,
    (∀ b, u.peek b = peekAfterWrites s (entryPushes ret brk s) b) ∧
    u = { s with sp := s.sp - 3, p := { s.p with i := true }, mem := u.mem } ∧
    SameButIo s { u with pc := (read16 vector u).1, draws := (read16 vector u).2.draws } t

/-- The result of a shift or rotate as a number (43_shift_rotate.md R171 to R174); 0 for the other mnemonics. -/
def shiftedValue (m : Mnemonic) (v : Byte) (cin : Bool) : Nat :=
  match m with
  | .asl => 2 * v.toNat % 256
  | .lsr => v.toNat / 2
  | .rol => 2 * v.toNat % 256 + cin.toNat
  | .ror => 128 * cin.toNat + v.toNat / 2
  | _ => 0

/-- The Carry a shift or rotate leaves: the old bit 7 going left, the old bit 0 going right (43_shift_rotate.md R171 to R174). -/
def shiftedCarry (m : Mnemonic) (v : Byte) : Bool :=
  match m with
  | .asl | .rol => decide (128 ≤ v.toNat)
  | _ => decide (v.toNat % 2 = 1)

/-- Which parts of the state an instruction writes besides pc. -/
structure Writes where
  a : Bool
  x : Bool
  y : Bool
  sp : Bool
  n : Bool
  v : Bool
  d : Bool
  i : Bool
  z : Bool
  c : Bool
  mem : Bool
deriving DecidableEq, Repr

/-- Nothing written. -/
def Writes.none : Writes :=
  { a := false, x := false, y := false, sp := false, n := false, v := false, d := false, i := false, z := false, c := false, mem := false }

/-- The "w" entries of the summary table (10_state.md R39). -/
def writesOf (i : Instr) : Writes :=
  match i.mnemonic with
  | .lda | .and | .ora | .eor | .txa | .tya => { Writes.none with a := true, n := true, z := true }
  | .ldx | .inx | .dex | .tax | .tsx => { Writes.none with x := true, n := true, z := true }
  | .ldy | .iny | .dey | .tay => { Writes.none with y := true, n := true, z := true }
  | .sta | .stx | .sty => { Writes.none with mem := true }
  | .cmp | .cpx | .cpy => { Writes.none with n := true, z := true, c := true }
  | .bpl | .bmi | .bvc | .bvs | .bcc | .bcs | .bne | .beq | .jmp | .nop => Writes.none
  | .jsr | .pha | .php => { Writes.none with sp := true, mem := true }
  | .rts | .txs => { Writes.none with sp := true }
  | .rti | .plp => { Writes.none with sp := true, n := true, v := true, d := true, i := true, z := true, c := true }
  | .inc | .dec => { Writes.none with n := true, z := true, mem := true }
  | .adc | .sbc => { Writes.none with a := true, n := true, v := true, z := true, c := true }
  | .bit => { Writes.none with n := true, v := true, z := true }
  | .clc | .sec => { Writes.none with c := true }
  | .cld | .sed => { Writes.none with d := true }
  | .cli | .sei => { Writes.none with i := true }
  | .clv => { Writes.none with v := true }
  | .pla => { Writes.none with a := true, sp := true, n := true, z := true }
  | .brk => { Writes.none with sp := true, i := true, mem := true }
  | .asl | .lsr | .rol | .ror =>
    { Writes.none with n := true, z := true, c := true, a := decide (i.mode = .acc), mem := decide (i.mode ≠ .acc) }

/-- The 105 opcode bytes the source does not list, as 30_encoding.md R98 prints them. -/
def unlistedBytes : List Byte :=
  [0x02#8, 0x03#8, 0x04#8, 0x07#8, 0x0B#8, 0x0C#8, 0x0F#8, 0x12#8, 0x13#8, 0x14#8, 0x17#8, 0x1A#8, 0x1B#8, 0x1C#8, 0x1F#8,
   0x22#8, 0x23#8, 0x27#8, 0x2B#8, 0x2F#8, 0x32#8, 0x33#8, 0x34#8, 0x37#8, 0x3A#8, 0x3B#8, 0x3C#8, 0x3F#8, 0x42#8, 0x43#8,
   0x44#8, 0x47#8, 0x4B#8, 0x4F#8, 0x52#8, 0x53#8, 0x54#8, 0x57#8, 0x5A#8, 0x5B#8, 0x5C#8, 0x5F#8, 0x62#8, 0x63#8, 0x64#8,
   0x67#8, 0x6B#8, 0x6F#8, 0x72#8, 0x73#8, 0x74#8, 0x77#8, 0x7A#8, 0x7B#8, 0x7C#8, 0x7F#8, 0x80#8, 0x82#8, 0x83#8, 0x87#8,
   0x89#8, 0x8B#8, 0x8F#8, 0x92#8, 0x93#8, 0x97#8, 0x9B#8, 0x9C#8, 0x9E#8, 0x9F#8, 0xA3#8, 0xA7#8, 0xAB#8, 0xAF#8, 0xB2#8,
   0xB3#8, 0xB7#8, 0xBB#8, 0xBF#8, 0xC2#8, 0xC3#8, 0xC7#8, 0xCB#8, 0xCF#8, 0xD2#8, 0xD3#8, 0xD4#8, 0xD7#8, 0xDA#8, 0xDB#8,
   0xDC#8, 0xDF#8, 0xE2#8, 0xE3#8, 0xE7#8, 0xEB#8, 0xEF#8, 0xF2#8, 0xF3#8, 0xF4#8, 0xF7#8, 0xFA#8, 0xFB#8, 0xFC#8, 0xFF#8]

/-- A next state changed by `f`; the other outcomes stay. -/
def mapNext (f : State → State) : Host.Outcome State Fault Refusal → Host.Outcome State Fault Refusal
  | .next t => .next (f t)
  | .fault r => .fault r
  | .refused r => .refused r

end Sys2Proof.Safety
end

