-- ==== Sys2Proof/Certificates/Slice0/Obligations.lean ====
section
/-! DEFINITION. The statements for the provers. `pc0` is `s.pc`. The state after an operand's reads differs from `s` in the `io` trace and
the draw counter only, fields of the model (entries 5, 6). Inputs come from `env` and `envEnd` (entry 8). `Answers i s u` says that `exec i s`
answers `u`; of the `io` trace it speaks only for instructions whose `io` accesses a claim may count (R60, R353, entry 11). -/

open Sys2Proof Sys2Proof.Machine Sys2Proof.Safety

/-! ## Encoding -/

/-- R80, R81, R96, R100: decoding the bytes of an instruction, with any bytes after them, gives it back. -/
def Obligations.DecodeOfEncodeIsTheInstruction : Prop :=
  ∀ (i : Instr) (rest : List Byte), i.wf = true → decode (encode i ++ rest) = .ok (i, rest)

/-- R80, R96, R100: what the decoder takes off a list of bytes is exactly the encoding of the instruction it answers. -/
def Obligations.EncodeOfDecodeIsTheBytes : Prop :=
  ∀ (bs rest : List Byte) (i : Instr), decode bs = .ok (i, rest) → bs = encode i ++ rest

/-- 95_test_vectors.md E13, E7: words of the source's syntax column decode to the instructions they stand for. -/
def Obligations.SampleWordsDecode : Prop :=
  decode [0xA9#8, 0x44#8] = .ok (.ldaImm 0x44#8, []) ∧
  decode [0xB1#8, 0x44#8] = .ok (.ldaIzy 0x44#8, []) ∧
  decode [0x96#8, 0x44#8] = .ok (.stxZpy 0x44#8, []) ∧
  decode [0x94#8, 0x44#8] = .ok (.styZpx 0x44#8, []) ∧
  decode [0xBC#8, 0x00#8, 0x44#8] = .ok (.ldyAbx 0x4400#16, []) ∧
  decode [0x6C#8, 0xFF#8, 0x30#8] = .ok (.jmpInd 0x30FF#16, []) ∧
  decode [0x2C#8, 0xA2#8, 0x20#8] = .ok (.bitAbs 0x20A2#16, []) ∧
  decode [0x10#8, 0x0E#8] = .ok (.bpl 0x0E#8, []) ∧
  decode [0x0A#8] = .ok (.aslAcc, []) ∧
  decode [0x00#8] = .ok (.brk, [])

/-- R85, R96: an assembly line is well formed exactly when an instruction of the table stands for it. -/
def Obligations.LinesOfTheTableAreTheWellFormedOnes : Prop :=
  ∀ l : Line, l.wf = true ↔ ∃ i : Instr, i.line = l

/-- R95: the assembler's displacement reaches the target, every displacement's target is in range, and a target out of range has none. -/
def Obligations.BranchDisplacementReachesItsTarget : Prop :=
  ∀ (pc0 target : Addr) (d : Byte),
    (branchReaches pc0 target = true → ∃ e, branchDisplacement pc0 target = some e ∧ branchTarget pc0 e = target) ∧
    branchReaches pc0 (branchTarget pc0 d) = true ∧
    (branchReaches pc0 target = false → branchDisplacement pc0 target = none ∧ branchTarget pc0 d ≠ target)

/-! ## Memory, stack, operands -/

/-- R51: what a read and a write do at each region kind. The byte read from `io` and `unmapped` is a draw, for every value of the model's
counter (entry 5). -/
def Obligations.RegionKindsDecideReadsAndWrites : Prop :=
  ∀ (a : Addr) (v : Byte) (s : State),
    (s.kindAt a = .ram → memRead a s = (s.mem.read a.toNat, s) ∧ memWrite a v s = { s with mem := s.mem.write a.toNat v }) ∧
    (s.kindAt a = .rom → memRead a s = (s.mem.read a.toNat, s) ∧ memWrite a v s = s) ∧
    (s.kindAt a = .io →
      (∃ b, memRead a s = (b, { s with ioTrace := .read a b :: s.ioTrace, draws := s.draws + 1 })) ∧
      memWrite a v s = { s with ioTrace := .write a v :: s.ioTrace }) ∧
    (s.kindAt a = .unmapped → (∃ b, memRead a s = (b, { s with draws := s.draws + 1 })) ∧ memWrite a v s = s)

/-- The model's storage (entry 2): two storages in canonical form that read alike at every address are the same list. -/
def Obligations.EqualContentsAreEqualMemories : Prop :=
  ∀ m m' : Memory, m.wf = true → m'.wf = true → (∀ k, m.read k = m'.read k) → m = m'

/-- R66, R52: the three 16-bit reads from storage, low byte first, with their wrap rules. -/
def Obligations.PointerReadsWrapAsTheirKindSays : Prop :=
  ∀ (a : Addr) (p : Byte) (s : State),
    (Stored s a → Stored s (a + 1) → read16 a s = (mkAddr (s.peek (a + 1)) (s.peek a), s)) ∧
    (Stored s (zeroPage p) → Stored s (zeroPage (p + 1)) →
      read16zp p s = (mkAddr (s.peek (zeroPage (p + 1))) (s.peek (zeroPage p)), s)) ∧
    (Stored s a → Stored s (nextInPage a) → read16page a s = (mkAddr (s.peek (nextInPage a)) (s.peek a), s)) ∧
    (nextInPage a).toNat = a.toNat / 256 * 256 + (a.toNat % 256 + 1) % 256 ∧
    (zeroPage (p + 1)).toNat = (p.toNat + 1) % 256

/-- R57, R56: push and pull, for a stack location of every kind. That S is the next free byte is the spec's general knowledge (decision
D5), PRESUMED in entry 19. -/
def Obligations.StackPrimitivesStayInPageOne : Prop :=
  ∀ (v : Byte) (s : State),
    (stackAddr s.sp).toNat = 256 + s.sp.toNat ∧
    (∀ b, (push v s).peek b = peekAfterWrites s [(stackAddr s.sp, v)] b) ∧
    push v s = { s with sp := s.sp - 1, mem := (push v s).mem, ioTrace := ioWritten s [(stackAddr s.sp, v)] ++ s.ioTrace } ∧
    (pull s).1 = (memRead (stackAddr (s.sp + 1)) s).1 ∧
    (pull s).2 = { (memRead (stackAddr (s.sp + 1)) s).2 with sp := s.sp + 1 } ∧
    (Stored s (stackAddr (s.sp + 1)) → pull s = (s.peek (stackAddr (s.sp + 1)), { s with sp := s.sp + 1 }))

/-- R86 to R91: the effective addresses of the direct and indexed modes, with their wraps, as numbers; the modes read nothing. -/
def Obligations.EffectiveAddressesOfTheDirectModes : Prop :=
  ∀ (n : Byte) (a : Addr) (s : State),
    ((effAddr (.zp n) s).1.toNat = n.toNat ∧ (effAddr (.zp n) s).2 = s) ∧
    ((effAddr (.zpx n) s).1.toNat = (n.toNat + s.x.toNat) % 256 ∧ (effAddr (.zpx n) s).2 = s) ∧
    ((effAddr (.zpy n) s).1.toNat = (n.toNat + s.y.toNat) % 256 ∧ (effAddr (.zpy n) s).2 = s) ∧
    ((effAddr (.abs a) s).1 = a ∧ (effAddr (.abs a) s).2 = s) ∧
    ((effAddr (.abx a) s).1.toNat = (a.toNat + s.x.toNat) % 65536 ∧ (effAddr (.abx a) s).2 = s) ∧
    ((effAddr (.aby a) s).1.toNat = (a.toNat + s.y.toNat) % 65536 ∧ (effAddr (.aby a) s).2 = s)

/-- R93, R94: the effective addresses of the two indirect modes when the pointer lies in storage. -/
def Obligations.EffectiveAddressesOfTheIndirectModes : Prop :=
  ∀ (n : Byte) (s : State),
    (Stored s (zeroPage (n + s.x)) → Stored s (zeroPage (n + s.x + 1)) →
      (effAddr (.izx n) s).1.toNat = 256 * (s.peek (zeroPage (n + s.x + 1))).toNat + (s.peek (zeroPage (n + s.x))).toNat ∧
      (effAddr (.izx n) s).2 = s) ∧
    (Stored s (zeroPage n) → Stored s (zeroPage (n + 1)) →
      (effAddr (.izy n) s).1.toNat =
        (256 * (s.peek (zeroPage (n + 1))).toNat + (s.peek (zeroPage n)).toNat + s.y.toNat) % 65536 ∧
      (effAddr (.izy n) s).2 = s)

/-! ## Flags and arithmetic -/

/-- R34: the layout of the status byte, bit by bit, and that a byte unpacked and packed again keeps six of its bits. -/
def Obligations.StatusByteLayout : Prop :=
  (∀ (p : Flags) (b : Bool),
    (p.pack b).getLsbD 7 = p.n ∧ (p.pack b).getLsbD 6 = p.v ∧ (p.pack b).getLsbD 5 = true ∧ (p.pack b).getLsbD 4 = b ∧
    (p.pack b).getLsbD 3 = p.d ∧ (p.pack b).getLsbD 2 = p.i ∧ (p.pack b).getLsbD 1 = p.z ∧ (p.pack b).getLsbD 0 = p.c ∧
    Flags.unpack (p.pack b) = p) ∧
  (∀ (v : Byte) (b : Bool), (Flags.unpack v).pack b = (v &&& 0xCF#8) ||| 0x20#8 ||| (if b then 0x10#8 else 0x00#8))

/-- R220: "This reference function has the property `BcdValid`". -/
def Obligations.ReferenceInstanceIsBcdValid : Prop :=
  BcdValidAdc nmosAdc ∧ BcdValidSbc nmosSbc

/-- R173: "nine ROLs restore the value and the Carry". -/
def Obligations.NineRotationsRestoreValueAndCarry : Prop :=
  ∀ (v : Byte) (c : Bool), (fun r : Byte × Bool => rolFn r.1 r.2)^[9] (v, c) = (v, c) ∧
    (fun r : Byte × Bool => rorFn r.1 r.2)^[9] (v, c) = (v, c)

/-! ## The instructions -/

/-- R317: every instruction of the table completes in every state; only the fetch can be refused. Names all 151 constructors. -/
def Obligations.EveryInstructionCompletes : Prop :=
  ∀ (i : Instr) (s : State), ∃ t, exec i s = .next t

/-- R120 to R122: LDA (ldaImm ldaZp ldaZpx ldaAbs ldaAbx ldaAby ldaIzx ldaIzy), LDX (ldxImm ldxZp ldxZpy ldxAbs ldxAby), LDY (ldyImm ldyZp
ldyZpx ldyAbs ldyAbx): the register, N, Z and pc; nothing else. Of the `io` trace only what R353 lets a claim say (entry 11). -/
def Obligations.LoadsPutTheirOperandInTheRegister : Prop :=
  ∀ (i : Instr) (s : State),
    (i.mnemonic = .lda →
      i.opcode ∈ [0xA9#8, 0xA5#8, 0xB5#8, 0xAD#8, 0xBD#8, 0xB9#8, 0xA1#8, 0xB1#8] ∧
      ∃ src, sourceOf i = some src ∧ Answers i s { s with
        a := (readSource src s).1
        p := { s.p with n := (readSource src s).1.getLsbD 7, z := decide ((readSource src s).1 = 0) }
        pc := s.pc + BitVec.ofNat 16 i.length
        ioTrace := (readSource src s).2.ioTrace
        draws := (readSource src s).2.draws }) ∧
    (i.mnemonic = .ldx →
      i.opcode ∈ [0xA2#8, 0xA6#8, 0xB6#8, 0xAE#8, 0xBE#8] ∧
      ∃ src, sourceOf i = some src ∧ Answers i s { s with
        x := (readSource src s).1
        p := { s.p with n := (readSource src s).1.getLsbD 7, z := decide ((readSource src s).1 = 0) }
        pc := s.pc + BitVec.ofNat 16 i.length
        ioTrace := (readSource src s).2.ioTrace
        draws := (readSource src s).2.draws }) ∧
    (i.mnemonic = .ldy →
      i.opcode ∈ [0xA0#8, 0xA4#8, 0xB4#8, 0xAC#8, 0xBC#8] ∧
      ∃ src, sourceOf i = some src ∧ Answers i s { s with
        y := (readSource src s).1
        p := { s.p with n := (readSource src s).1.getLsbD 7, z := decide ((readSource src s).1 = 0) }
        pc := s.pc + BitVec.ofNat 16 i.length
        ioTrace := (readSource src s).2.ioTrace
        draws := (readSource src s).2.draws })

/-- R123 to R125: STA (staZp staZpx staAbs staAbx staAby staIzx staIzy), STX (stxZp stxZpy stxAbs), STY (styZp styZpx styAbs): the register's
byte at the effective address, for every region kind; no flag, no register, no other byte. Of the `io` trace only what R353 lets a claim say
(entry 11). -/
def Obligations.StoresWriteTheRegisterAtTheEffectiveAddress : Prop :=
  ∀ (i : Instr) (s : State) (v : Byte),
    (i.mnemonic = .sta ∧ v = s.a) ∨ (i.mnemonic = .stx ∧ v = s.x) ∨ (i.mnemonic = .sty ∧ v = s.y) →
    ∃ m after, memOf i = some m ∧
      (∀ b, (s.setMem after).peek b = peekAfterWrites s [((effAddr m s).1, v)] b) ∧
      Answers i s { s with
        pc := s.pc + BitVec.ofNat 16 i.length
        mem := after
        ioTrace := ioWritten s [((effAddr m s).1, v)] ++ (effAddr m s).2.ioTrace
        draws := (effAddr m s).2.draws }

/-- R140 to R142: CMP (cmpImm cmpZp cmpZpx cmpAbs cmpAbx cmpAby cmpIzx cmpIzy), CPX (cpxImm cpxZp cpxAbs), CPY (cpyImm cpyZp cpyAbs): N, Z,
C as if the operand had been subtracted; no register, no memory, not V. -/
def Obligations.ComparesSetTheFlagsOfASubtraction : Prop :=
  ∀ (i : Instr) (s : State) (reg : Byte),
    (i.mnemonic = .cmp ∧ reg = s.a) ∨ (i.mnemonic = .cpx ∧ reg = s.x) ∨ (i.mnemonic = .cpy ∧ reg = s.y) →
    ∃ src, sourceOf i = some src ∧ Answers i s { s with
      p := { s.p with
        n := decide (128 ≤ (reg - (readSource src s).1).toNat)
        z := decide (reg = (readSource src s).1)
        c := decide ((readSource src s).1.toNat ≤ reg.toNat) }
      pc := s.pc + BitVec.ofNat 16 i.length
      ioTrace := (readSource src s).2.ioTrace
      draws := (readSource src s).2.draws }

/-- R150 to R158: the eight branches (bpl bmi bvc bvs bcc bcs bne beq): pc, and nothing else; the target as a number. Of the `io` trace only
what R353 lets a claim say (entry 11). -/
def Obligations.BranchesMoveOnlyThePc : Prop :=
  ∀ (d : Byte) (s : State),
    let go (cond : Bool) : State :=
      { s with pc := if cond then BitVec.ofInt 16 ((s.pc.toNat : Int) + 2 + d.toInt) else s.pc + 2 }
    Answers (.bpl d) s (go (!s.p.n)) ∧ Answers (.bmi d) s (go s.p.n) ∧ Answers (.bvc d) s (go (!s.p.v)) ∧ Answers (.bvs d) s (go s.p.v) ∧
    Answers (.bcc d) s (go (!s.p.c)) ∧ Answers (.bcs d) s (go s.p.c) ∧ Answers (.bne d) s (go (!s.p.z)) ∧ Answers (.beq d) s (go s.p.z)

/-- R170 to R174: ASL (aslAcc aslZp aslZpx aslAbs aslAbx), LSR (lsrAcc lsrZp lsrZpx lsrAbs lsrAbx), ROL (rolAcc rolZp rolZpx rolAbs rolAbx), ROR
(rorAcc rorZp rorZpx rorAbs rorAbx): the result as a number, on A or on the byte at the effective address; N, Z, C. On an `io` location R353
puts the result outside what a claim may say: there only the frame (entry 11). -/
def Obligations.ShiftsMoveEveryBitByOne : Prop :=
  ∀ (i : Instr) (s : State), i.mnemonic ∈ [Mnemonic.asl, .lsr, .rol, .ror] →
    (i.mode = .acc ∧ ∃ r : Byte, r.toNat = shiftedValue i.mnemonic s.a s.p.c ∧
      Answers i s { s with
        a := r
        p := { s.p with n := r.getLsbD 7, z := decide (r = 0), c := shiftedCarry i.mnemonic s.a }
        pc := s.pc + 1 }) ∨
    (∃ m, memOf i = some m ∧
      (s.kindAt (effAddr m s).1 ≠ .io →
        ∃ (v r : Byte) (after : Memory), v = (memRead (effAddr m s).1 (effAddr m s).2).1 ∧
          r.toNat = shiftedValue i.mnemonic v s.p.c ∧
          (∀ b, (s.setMem after).peek b = peekAfterWrites s [((effAddr m s).1, r)] b) ∧
          Answers i s { s with
            p := { s.p with n := r.getLsbD 7, z := decide (r = 0), c := shiftedCarry i.mnemonic v }
            pc := s.pc + BitVec.ofNat 16 i.length
            mem := after
            draws := (memRead (effAddr m s).1 (effAddr m s).2).2.draws }) ∧
      (s.kindAt (effAddr m s).1 = .io →
        ∃ (n z c : Bool) (k : Nat),
          Answers i s { s with p := { s.p with n := n, z := z, c := c }, pc := s.pc + BitVec.ofNat 16 i.length, draws := k }))

/-- R200, R201: INC (incZp incZpx incAbs incAbx), DEC (decZp decZpx decAbs decAbx): the byte one more or one less mod 256, N and Z; not the
Carry, not V, no register. On an `io` location R353 puts the result outside what a claim may say: there only the frame (entry 11). -/
def Obligations.MemoryCountersStepByOne : Prop :=
  ∀ (i : Instr) (s : State) (k : Int), (i.mnemonic = .inc ∧ k = 1) ∨ (i.mnemonic = .dec ∧ k = -1) →
    ∃ m, memOf i = some m ∧
      (s.kindAt (effAddr m s).1 ≠ .io →
        ∃ (r : Byte) (after : Memory),
          (r.toNat : Int) = (((memRead (effAddr m s).1 (effAddr m s).2).1.toNat : Int) + k) % 256 ∧
          (∀ b, (s.setMem after).peek b = peekAfterWrites s [((effAddr m s).1, r)] b) ∧
          Answers i s { s with
            p := { s.p with n := r.getLsbD 7, z := decide (r = 0) }
            pc := s.pc + BitVec.ofNat 16 i.length
            mem := after
            draws := (memRead (effAddr m s).1 (effAddr m s).2).2.draws }) ∧
      (s.kindAt (effAddr m s).1 = .io →
        ∃ (n z : Bool) (d : Nat),
          Answers i s { s with p := { s.p with n := n, z := z }, pc := s.pc + BitVec.ofNat 16 i.length, draws := d })

/-- R202 to R205: INX, DEX, INY, DEY (inx dex iny dey), with their opcode bytes: the register, N, Z, pc; the Carry stays. -/
def Obligations.RegisterCountersStepByOne : Prop :=
  ∀ s : State,
    (decode [0xE8#8] = .ok (.inx, []) ∧ exec .inx s = .next { s with
      x := s.x + 1, p := { s.p with n := (s.x + 1).getLsbD 7, z := decide (s.x + 1 = 0) }, pc := s.pc + 1 }) ∧
    (decode [0xCA#8] = .ok (.dex, []) ∧ exec .dex s = .next { s with
      x := s.x - 1, p := { s.p with n := (s.x - 1).getLsbD 7, z := decide (s.x - 1 = 0) }, pc := s.pc + 1 }) ∧
    (decode [0xC8#8] = .ok (.iny, []) ∧ exec .iny s = .next { s with
      y := s.y + 1, p := { s.p with n := (s.y + 1).getLsbD 7, z := decide (s.y + 1 = 0) }, pc := s.pc + 1 }) ∧
    (decode [0x88#8] = .ok (.dey, []) ∧ exec .dey s = .next { s with
      y := s.y - 1, p := { s.p with n := (s.y - 1).getLsbD 7, z := decide (s.y - 1 = 0) }, pc := s.pc + 1 }) ∧
    [Instr.inx, .dex, .iny, .dey].map (fun i => (i.mode, i.length, instrTime i)) = List.replicate 4 (Mode.imp, 1, 2)

/-- R221, R220: ADC (adcImm adcZp adcZpx adcAbs adcAbx adcAby adcIzx adcIzy). With D = 0 the binary sum; with D = 1 the decimal sum in A and C
where both operands are packed BCD, and whatever `bcd_adc` answers elsewhere; N, V, Z, C written, I and D not. -/
def Obligations.AdcAddsOperandAndCarry : Prop :=
  ∀ (i : Instr) (s : State), i.mnemonic = .adc →
    ∃ (src : Source) (r : ArithResult), sourceOf i = some src ∧
      (s.p.d = false →
        r.r.toNat = (s.a.toNat + (readSource src s).1.toNat + s.p.c.toNat) % 256 ∧
        r.c = decide (255 < s.a.toNat + (readSource src s).1.toNat + s.p.c.toNat) ∧
        r.v = decide (s.a.toInt + (readSource src s).1.toInt + s.p.c.toNat < -128 ∨
          127 < s.a.toInt + (readSource src s).1.toInt + s.p.c.toNat) ∧
        r.n = r.r.getLsbD 7 ∧ r.z = decide (r.r = 0)) ∧
      (s.p.d = true → r = bcdAdc s.a (readSource src s).1 s.p.c ∧
        (isBcd s.a = true → isBcd (readSource src s).1 = true →
          r.r = bcdByte ((bcdVal s.a + bcdVal (readSource src s).1 + s.p.c.toNat) % 100) ∧
          r.c = decide (100 ≤ bcdVal s.a + bcdVal (readSource src s).1 + s.p.c.toNat))) ∧
      Answers i s { s with
        a := r.r
        p := { s.p with n := r.n, v := r.v, z := r.z, c := r.c }
        pc := s.pc + BitVec.ofNat 16 i.length
        ioTrace := (readSource src s).2.ioTrace
        draws := (readSource src s).2.draws }

/-- R222, R220: SBC (sbcImm sbcZp sbcZpx sbcAbs sbcAbx sbcAby sbcIzx sbcIzy). With D = 0 the binary difference; with D = 1 the decimal
difference in A and C where both operands are packed BCD, and whatever `bcd_sbc` answers elsewhere. -/
def Obligations.SbcSubtractsOperandAndBorrow : Prop :=
  ∀ (i : Instr) (s : State), i.mnemonic = .sbc →
    ∃ (src : Source) (r : ArithResult), sourceOf i = some src ∧
      (s.p.d = false →
        (r.r.toNat : Int) = ((s.a.toNat : Int) - (readSource src s).1.toNat - (1 - s.p.c.toNat)) % 256 ∧
        r.c = decide (0 ≤ (s.a.toNat : Int) - (readSource src s).1.toNat - (1 - s.p.c.toNat)) ∧
        r.v = decide (s.a.toInt - (readSource src s).1.toInt - (1 - s.p.c.toNat) < -128 ∨
          127 < s.a.toInt - (readSource src s).1.toInt - (1 - s.p.c.toNat)) ∧
        r.n = r.r.getLsbD 7 ∧ r.z = decide (r.r = 0)) ∧
      (s.p.d = true → r = bcdSbc s.a (readSource src s).1 s.p.c ∧
        (isBcd s.a = true → isBcd (readSource src s).1 = true →
          r.r = bcdByte (((bcdVal s.a : Int) - bcdVal (readSource src s).1 - (1 - s.p.c.toNat)) % 100).toNat ∧
          r.c = decide (0 ≤ (bcdVal s.a : Int) - bcdVal (readSource src s).1 - (1 - s.p.c.toNat)))) ∧
      Answers i s { s with
        a := r.r
        p := { s.p with n := r.n, v := r.v, z := r.z, c := r.c }
        pc := s.pc + BitVec.ofNat 16 i.length
        ioTrace := (readSource src s).2.ioTrace
        draws := (readSource src s).2.draws }

/-- R223: BIT (bitZp bitAbs): N and V from the memory byte, Z from the conjunction with A; A, C and all else stay. -/
def Obligations.BitTestsMemoryAgainstA : Prop :=
  ∀ (i : Instr) (s : State), i.mnemonic = .bit →
    i.opcode ∈ [0x24#8, 0x2C#8] ∧
    ∃ m, memOf i = some m ∧ Answers i s { s with
      p := { s.p with
        n := (readSource (.mem m) s).1.getLsbD 7
        v := (readSource (.mem m) s).1.getLsbD 6
        z := decide (s.a &&& (readSource (.mem m) s).1 = 0) }
      pc := s.pc + BitVec.ofNat 16 i.length
      ioTrace := (readSource (.mem m) s).2.ioTrace
      draws := (readSource (.mem m) s).2.draws }

/-- R224 to R226: AND (andImm andZp andZpx andAbs andAbx andAby andIzx andIzy), ORA (oraImm oraZp oraZpx oraAbs oraAbx oraAby oraIzx oraIzy), EOR
(eorImm eorZp eorZpx eorAbs eorAbx eorAby eorIzx eorIzy): each bit of A, N, Z, pc; nothing else. -/
def Obligations.LogicActsOnEachBitOfA : Prop :=
  ∀ (i : Instr) (s : State), i.mnemonic ∈ [Mnemonic.and, .ora, .eor] →
    ∃ (src : Source) (r : Byte), sourceOf i = some src ∧
      (i.mnemonic = .and → ∀ k, r.getLsbD k = (s.a.getLsbD k && (readSource src s).1.getLsbD k)) ∧
      (i.mnemonic = .ora → ∀ k, r.getLsbD k = (s.a.getLsbD k || (readSource src s).1.getLsbD k)) ∧
      (i.mnemonic = .eor → ∀ k, r.getLsbD k = (s.a.getLsbD k ^^ (readSource src s).1.getLsbD k)) ∧
      Answers i s { s with
        a := r
        p := { s.p with n := r.getLsbD 7, z := decide (r = 0) }
        pc := s.pc + BitVec.ofNat 16 i.length
        ioTrace := (readSource src s).2.ioTrace
        draws := (readSource src s).2.draws }

/-- R250 to R255: TAX, TXA, TAY, TYA, TSX, TXS (tax txa tay tya tsx txs), with their opcode bytes: the register copied, N and Z from it except
for TXS; nothing else. N and Z of TSX and no flag of TXS are the spec's general knowledge (decision D14), PRESUMED in entry 19. -/
def Obligations.TransfersCopyOneRegister : Prop :=
  ∀ s : State,
    (decode [0xAA#8] = .ok (.tax, []) ∧ exec .tax s = .next { s with
      x := s.a, p := { s.p with n := s.a.getLsbD 7, z := decide (s.a = 0) }, pc := s.pc + 1 }) ∧
    (decode [0x8A#8] = .ok (.txa, []) ∧ exec .txa s = .next { s with
      a := s.x, p := { s.p with n := s.x.getLsbD 7, z := decide (s.x = 0) }, pc := s.pc + 1 }) ∧
    (decode [0xA8#8] = .ok (.tay, []) ∧ exec .tay s = .next { s with
      y := s.a, p := { s.p with n := s.a.getLsbD 7, z := decide (s.a = 0) }, pc := s.pc + 1 }) ∧
    (decode [0x98#8] = .ok (.tya, []) ∧ exec .tya s = .next { s with
      a := s.y, p := { s.p with n := s.y.getLsbD 7, z := decide (s.y = 0) }, pc := s.pc + 1 }) ∧
    (decode [0xBA#8] = .ok (.tsx, []) ∧ exec .tsx s = .next { s with
      x := s.sp, p := { s.p with n := s.sp.getLsbD 7, z := decide (s.sp = 0) }, pc := s.pc + 1 }) ∧
    (decode [0x9A#8] = .ok (.txs, []) ∧ exec .txs s = .next { s with sp := s.x, pc := s.pc + 1 }) ∧
    [Instr.tax, .txa, .tay, .tya, .tsx, .txs].map (fun i => (i.mode, i.length, instrTime i)) = List.replicate 6 (Mode.imp, 1, 2)

/-- R260 to R263, R266, R284: CLC, SEC, CLD, SED, CLV, NOP (clc sec cld sed clv nop), with their opcode bytes: one flag, or none, and pc. -/
def Obligations.FlagInstructionsWriteOneFlag : Prop :=
  ∀ s : State,
    (decode [0x18#8] = .ok (.clc, []) ∧ exec .clc s = .next { s with p := { s.p with c := false }, pc := s.pc + 1 }) ∧
    (decode [0x38#8] = .ok (.sec, []) ∧ exec .sec s = .next { s with p := { s.p with c := true }, pc := s.pc + 1 }) ∧
    (decode [0xD8#8] = .ok (.cld, []) ∧ exec .cld s = .next { s with p := { s.p with d := false }, pc := s.pc + 1 }) ∧
    (decode [0xF8#8] = .ok (.sed, []) ∧ exec .sed s = .next { s with p := { s.p with d := true }, pc := s.pc + 1 }) ∧
    (decode [0xB8#8] = .ok (.clv, []) ∧ exec .clv s = .next { s with p := { s.p with v := false }, pc := s.pc + 1 }) ∧
    (decode [0xEA#8] = .ok (.nop, []) ∧ exec .nop s = .next { s with pc := s.pc + 1 }) ∧
    [Instr.clc, .sec, .cld, .sed, .clv, .nop].map (fun i => (i.mode, i.length, instrTime i)) = List.replicate 6 (Mode.imp, 1, 2)

/-- R264, R265, R304: CLI and SEI (cli sei): I and pc; the I before is kept for the IRQ decision of the next boundary, in a field of
the model (entry 9). -/
def Obligations.InterruptMaskInstructionsWriteI : Prop :=
  ∀ s : State,
    exec .cli s = .next { s with p := { s.p with i := false }, pc := s.pc + 1, iBefore := some s.p.i } ∧
    exec .sei s = .next { s with p := { s.p with i := true }, pc := s.pc + 1, iBefore := some s.p.i }

/-- R280, R282: PHA and PHP (pha php): the byte pushed in page one, S one lower; no flag, no other byte. The status byte has bits 5 and 4
set. Of the `io` trace only what R353 lets a claim say (entry 11). -/
def Obligations.PushesStoreOneByteBelow : Prop :=
  ∀ (i : Instr) (s : State) (v : Byte), (i = .pha ∧ v = s.a) ∨ (i = .php ∧ v = s.p.pack true) →
    ∃ after,
      (∀ b, (s.setMem after).peek b = peekAfterWrites s [(stackAddr s.sp, v)] b) ∧
      Answers i s { s with sp := s.sp - 1, pc := s.pc + 1, mem := after }

/-- R281, R283: PLA and PLP (pla plp): the byte above S, read as the stack location's kind says; PLA writes A, N, Z; PLP writes the six flags
from bits 7, 6, 3, 2, 1, 0, and keeps the I before for the IRQ decision, in a field of the model (entry 9). Of the `io` trace only what R353
lets a claim say (entry 11). -/
def Obligations.PullsReadOneByteAbove : Prop :=
  ∀ s : State,
    let r := memRead (stackAddr (s.sp + 1)) s
    Answers .pla s { s with
      a := r.1
      sp := s.sp + 1
      p := { s.p with n := r.1.getLsbD 7, z := decide (r.1 = 0) }
      pc := s.pc + 1
      draws := r.2.draws } ∧
    Answers .plp s { s with
      sp := s.sp + 1
      p := {
        n := r.1.getLsbD 7, v := r.1.getLsbD 6, d := r.1.getLsbD 3, i := r.1.getLsbD 2, z := r.1.getLsbD 1, c := r.1.getLsbD 0 }
      pc := s.pc + 1
      iBefore := some s.p.i
      draws := r.2.draws }

/-- R192: JMP (jmpAbs jmpInd): pc alone; the indirect form takes the high byte from the page of the low byte. -/
def Obligations.JumpsLoadThePc : Prop :=
  ∀ (a : Addr) (s : State),
    decode [0x4C#8, loByte a, hiByte a] = .ok (.jmpAbs a, []) ∧ instrTime (.jmpAbs a) = 3 ∧
    decode [0x6C#8, loByte a, hiByte a] = .ok (.jmpInd a, []) ∧ instrTime (.jmpInd a) = 5 ∧
    exec (.jmpAbs a) s = .next { s with pc := a } ∧
    exec (.jmpInd a) s = .next { s with
      pc := (read16page a s).1, ioTrace := (read16page a s).2.ioTrace, draws := (read16page a s).2.draws } ∧
    (Stored s a → Stored s (mkAddr (hiByte a) (loByte a + 1)) →
      exec (.jmpInd a) s = .next { s with pc := mkAddr (s.peek (mkAddr (hiByte a) (loByte a + 1))) (s.peek a) })

/-- R190: JSR (jsrAbs): the address of its last byte pushed, high byte first; S two lower; pc at the operand. Of the `io` trace only what
R353 lets a claim say (entry 11). -/
def Obligations.JsrPushesItsLastByteAddress : Prop :=
  ∀ (a : Addr) (s : State), decode [0x20#8, loByte a, hiByte a] = .ok (.jsrAbs a, []) ∧ instrTime (.jsrAbs a) = 6 ∧
    ∃ after,
      (∀ b, (s.setMem after).peek b =
        peekAfterWrites s [(stackAddr (s.sp - 1), loByte (s.pc + 2)), (stackAddr s.sp, hiByte (s.pc + 2))] b) ∧
      Answers (.jsrAbs a) s { s with sp := s.sp - 2, pc := a, mem := after }

/-- R191: RTS (rts): the address pulled, low byte first, plus 1; S two higher; no flag, no byte of memory. Of the `io` trace only what R353
lets a claim say (entry 11). -/
def Obligations.RtsGoesToThePulledAddressPlusOne : Prop :=
  ∀ s : State,
    decode [0x60#8] = .ok (.rts, []) ∧ instrTime .rts = 6 ∧
    Answers .rts s { s with sp := s.sp + 2, pc := (pullAddr s).1 + 1, draws := (pullAddr s).2.draws } ∧
    (Stored s (stackAddr (s.sp + 1)) → Stored s (stackAddr (s.sp + 2)) →
      Answers .rts s { s with
        sp := s.sp + 2, pc := mkAddr (s.peek (stackAddr (s.sp + 2))) (s.peek (stackAddr (s.sp + 1))) + 1 })

/-- R193: RTI (rti): the six flags from the byte pulled first, then pc itself; S three higher. Of the `io` trace only what R353 lets a claim
say (entry 11). -/
def Obligations.RtiPullsFlagsThenThePc : Prop :=
  ∀ s : State,
    decode [0x40#8] = .ok (.rti, []) ∧ instrTime .rti = 6 ∧
    Answers .rti s { s with
      sp := s.sp + 3
      p := Flags.unpack (pull s).1
      pc := (pullAddr (pull s).2).1
      draws := (pullAddr (pull s).2).2.draws } ∧
    (Stored s (stackAddr (s.sp + 1)) → Stored s (stackAddr (s.sp + 2)) → Stored s (stackAddr (s.sp + 3)) →
      Answers .rti s { s with
        sp := s.sp + 3
        p := {
          n := (s.peek (stackAddr (s.sp + 1))).getLsbD 7, v := (s.peek (stackAddr (s.sp + 1))).getLsbD 6
          d := (s.peek (stackAddr (s.sp + 1))).getLsbD 3, i := (s.peek (stackAddr (s.sp + 1))).getLsbD 2
          z := (s.peek (stackAddr (s.sp + 1))).getLsbD 1, c := (s.peek (stackAddr (s.sp + 1))).getLsbD 0 }
        pc := mkAddr (s.peek (stackAddr (s.sp + 3))) (s.peek (stackAddr (s.sp + 2))) })

/-- R285: BRK (brk): the entry through $FFFE with pc0 + 2 and B = 1 pushed, whatever I holds; D and the other flags stay. -/
def Obligations.BrkEntersThroughTheIrqVector : Prop :=
  ∀ s : State, ∃ t, exec .brk s = .next t ∧ EntryEffect (s.pc + 2) true 0xFFFE#16 s t

/-! ## Steps, interrupts, reset -/

/-- R100, R304, R317: with no request in the inputs and none latched, or wherever else the boundary asks for an instruction, and the bytes at
pc stored and the encoding of i, a step is exec of i, at the state whose inputs have been taken and whose record of the previous instruction
is cleared (fields of the model, entries 8 and 9). -/
def Obligations.StepRunsTheDecodedInstruction : Prop :=
  ∀ (s : State) (i : Instr), NoRequest s ∨ QuietBoundary s → i.wf = true →
    (∀ (k : Nat) (b : Byte), (encode i)[k]? = some b →
      Stored s (s.pc + BitVec.ofNat 16 k) ∧ s.peek (s.pc + BitVec.ofNat 16 k) = b) →
    step s = exec i (boundary s).2 ∧
    (boundary s).2 = { s with nmiPending := false, iBefore := none, env := s.env.tail, draws := (boundary s).2.draws }

/-- R98, R100, R304: with no request in the inputs and none latched, or wherever else the boundary asks for an instruction, a step is refused
exactly when the byte at pc is one of the 105, and names the byte and its address. -/
def Obligations.OnlyUnlistedBytesAreRefused : Prop :=
  ∀ s : State, NoRequest s ∨ QuietBoundary s →
    ((memRead s.pc (boundary s).2).1 ∈ unlistedBytes →
      step s = .refused (.illegalOpcode (memRead s.pc (boundary s).2).1 s.pc)) ∧
    ((memRead s.pc (boundary s).2).1 ∉ unlistedBytes → ∃ t, step s = .next t)

/-- R302, R304, R306: an enabled IRQ is entered through $FFFE with pc and B = 0 pushed. -/
def Obligations.EnabledIrqIsEntered : Prop :=
  ∀ (s : State) (rest : List Inputs) (e : Inputs), s.env = e :: rest →
    e.irqLine = true → e.nmiEdge = false → e.resetLine = false → s.nmiPending = false → s.iBefore = none → s.p.i = false →
    ∃ t, step s = .next t ∧ EntryEffect s.pc false 0xFFFE#16 { s with env := rest } t

/-- R302, R304: with no reset and no NMI, and the IRQ line low (whatever I holds), or high with I set, the step is the instruction at pc, and
nothing remembers the line. -/
def Obligations.MaskedIrqIsForgotten : Prop :=
  ∀ (s : State) (rest : List Inputs) (e : Inputs), s.env = e :: rest →
    e.nmiEdge = false → e.resetLine = false → s.nmiPending = false →
    e.irqLine = false ∨ (s.iBefore = none ∧ s.p.i = true) →
    step s = executeInstruction { s with env := rest, iBefore := none }

/-- R304, U10: after CLI, SEI or PLP the IRQ decision uses the I before or the I after; where the two agree it is determined. The choice is
a free bit, for every value of it (entry 9). -/
def Obligations.PollAfterCliSeiPlpUsesEitherI : Prop :=
  ∀ (s : State) (rest : List Inputs) (e : Inputs) (before : Bool), s.env = e :: rest →
    e.irqLine = true → e.nmiEdge = false → e.resetLine = false → s.nmiPending = false → s.iBefore = some before →
    ∃ (u : State) (t : State), u = { s with env := rest, iBefore := none, draws := u.draws } ∧ EntryEffect s.pc false 0xFFFE#16 u t ∧
      (step s = .next t ∨ step s = executeInstruction u) ∧
      (before = false → s.p.i = false → step s = .next t) ∧
      (before = true → s.p.i = true → step s = executeInstruction u)

/-- R303, R305, R306: a latched or arriving non-maskable request is entered through $FFFA whatever I and the IRQ line are, and the latch is
cleared. -/
def Obligations.NmiIsEnteredWhateverIHolds : Prop :=
  ∀ s : State, s.inputs.resetLine = false → (s.nmiPending || s.inputs.nmiEdge) = true →
    ∃ u t, u = { s with env := s.env.tail, iBefore := none, nmiPending := false, draws := u.draws } ∧ step s = .next t ∧
      EntryEffect s.pc false 0xFFFA#16 u t

/-- R305, R340: a reset goes before every other request: I is set, the latch cleared, pc read from $FFFC, storage kept, nothing pushed. The
other registers and flags are not constrained. -/
def Obligations.ResetGoesFirstAndKeepsStorage : Prop :=
  ∀ s : State, s.inputs.resetLine = true →
    ∃ u t, u = { s with env := s.env.tail, iBefore := none, nmiPending := false, draws := u.draws } ∧ step s = .next t ∧
      t.p.i = true ∧ t.nmiPending = false ∧ t.pc = (read16 0xFFFC#16 u).1 ∧
      (Stored s 0xFFFC#16 → Stored s 0xFFFD#16 → t.pc = mkAddr (s.peek 0xFFFD#16) (s.peek 0xFFFC#16)) ∧
      t.mem = s.mem ∧ t.bus = s.bus ∧ t.env = s.env.tail ∧ t.envEnd = s.envEnd ∧ t.iBefore = none ∧
      (IoFree s → t.ioTrace = s.ioTrace)

/-- R38, R340: what the spec gives for the state after reset: I = 1, `nmi_pending` = 0, pc = Read16($FFFC). -/
def Obligations.ResetStateIsAsTheSpecGives : Prop :=
  State.reset.p.i = true ∧ State.reset.nmiPending = false ∧ State.reset.pc = (read16 0xFFFC#16 State.reset).1

/-- The invariant of the model's storage (entry 2) holds right after reset. -/
def Obligations.ResetMeetsTheInvariant : Prop := Safety.Inv State.reset

/-- Headline: every step keeps the model's storage (entry 2) in its canonical form, so that equal contents stay equal data along every run. -/
def Obligations.StepKeepsStorageCanonical : Prop :=
  ∀ s t : State, Safety.Inv s → step s = .next t → Safety.Inv t

/-- R51, R59: no step changes what a `rom`, `io` or `unmapped` address holds, nor the address map, which the model
carries as data that stays (entry 1; bank switching is outside it). -/
def Obligations.OnlyRamEverChanges : Prop :=
  ∀ s t : State, step s = .next t → t.bus = s.bus ∧ ∀ a, s.kindAt a ≠ .ram → t.peek a = s.peek a

/-- R60, R317: a step takes one boundary's inputs, adds to the `io` trace and takes nothing from it; where no address is `io` the trace
stays. The queue of inputs, the trace and the draw counter are fields of the model (entries 5, 6, 8). -/
def Obligations.StepTakesInputsAndExtendsTheTrace : Prop :=
  ∀ s t : State, step s = .next t →
    t.env = s.env.tail ∧ t.envEnd = s.envEnd ∧ s.draws ≤ t.draws ∧ (∃ seen, t.ioTrace = seen ++ s.ioTrace) ∧ (IoFree s → t.ioTrace = s.ioTrace)

/-! ## Whole-machine rules -/

/-- R39, R26: an instruction writes only what the summary table marks "w": every other register and flag, and every byte of memory where
the table marks no write, is as before; and no instruction touches the latch, the map or the coming inputs. -/
def Obligations.InstructionsWriteOnlyWhatTheTableLists : Prop :=
  ∀ (i : Instr) (s t : State), exec i s = .next t →
    ((writesOf i).a = false → t.a = s.a) ∧ ((writesOf i).x = false → t.x = s.x) ∧ ((writesOf i).y = false → t.y = s.y) ∧
    ((writesOf i).sp = false → t.sp = s.sp) ∧ ((writesOf i).n = false → t.p.n = s.p.n) ∧ ((writesOf i).v = false → t.p.v = s.p.v) ∧
    ((writesOf i).d = false → t.p.d = s.p.d) ∧ ((writesOf i).i = false → t.p.i = s.p.i) ∧ ((writesOf i).z = false → t.p.z = s.p.z) ∧
    ((writesOf i).c = false → t.p.c = s.p.c) ∧ ((writesOf i).mem = false → ∀ b, t.peek b = s.peek b) ∧
    t.nmiPending = s.nmiPending ∧ t.bus = s.bus ∧ t.env = s.env ∧ t.envEnd = s.envEnd

/-- R28: "only ADC, BIT, CLV, PLP, RTI, and SBC affect it", said of every step: where V changes, the step was a reset entry, or it was an
instruction, one of those six. The pin SO, which sets V from outside on a machine that wires it, is not modelled (entry 20). -/
def Obligations.OverflowChangesOnlyBySixInstructionsOrReset : Prop :=
  ∀ s t : State, step s = .next t → t.p.v ≠ s.p.v →
    ((boundary s).1 = .reset ∧ s.inputs.resetLine = true) ∨
    ((boundary s).1 = .instruction ∧ ∃ i s', fetch (boundary s).2 = .ok (i, s') ∧ exec i s' = .next t ∧
      i.mnemonic ∈ [Mnemonic.adc, .bit, .clv, .plp, .rti, .sbc])

/-- R104, R25: every instruction but the branches, JMP, JSR, RTS, RTI and BRK moves pc by its length. -/
def Obligations.OtherInstructionsAdvanceByTheirLength : Prop :=
  ∀ (i : Instr) (s t : State), exec i s = .next t →
    i.mnemonic ∉ [Mnemonic.bpl, .bmi, .bvc, .bvs, .bcc, .bcs, .bne, .beq, .jmp, .jsr, .rts, .rti, .brk] →
    t.pc = s.pc + BitVec.ofNat 16 (encode i).length

/-- R30: D changes what an instruction does only through ADC, SBC and the instructions that push, pull or write D: for every other
instruction, running it with another D gives the same state with that D. -/
def Obligations.OnlyAdcAndSbcHeedTheDecimalFlag : Prop :=
  ∀ (i : Instr) (s : State) (b : Bool),
    i.mnemonic ∉ [Mnemonic.adc, .sbc, .php, .plp, .rti, .brk, .cld, .sed] →
    exec i { s with p := { s.p with d := b } } = mapNext (fun t => { t with p := { t.p with d := b } }) (exec i s)

/-- R50, R56: the stack instructions and the interrupt entries write only page one. -/
def Obligations.StackInstructionsWriteOnlyPageOne : Prop :=
  ∀ s t : State,
    (∀ i : Instr, i.mnemonic ∈ [Mnemonic.pha, .php, .pla, .plp, .jsr, .rts, .rti, .brk] → exec i s = .next t →
      ∀ b : Addr, hiByte b ≠ 0x01#8 → t.peek b = s.peek b) ∧
    ((boundary s).1 ≠ .instruction → step s = .next t → ∀ b : Addr, hiByte b ≠ 0x01#8 → t.peek b = s.peek b)

/-- R190, R191: with a stack in `ram`, the RTS of a subroutine entered by JSR returns to the instruction after the JSR, with S as before,
whatever pc the subroutine has reached. Of the `io` trace only what R353 lets a claim say (entry 11). -/
def Obligations.RtsUndoesJsr : Prop :=
  ∀ (s : State) (a p' : Addr), s.kindAt (stackAddr s.sp) = .ram → s.kindAt (stackAddr (s.sp - 1)) = .ram →
    ∃ t u, exec (.jsrAbs a) s = .next t ∧ exec .rts { t with pc := p' } = .next u ∧
      SameButIo s { s with pc := s.pc + 3, mem := t.mem } u ∧
      ∀ b, b ≠ stackAddr s.sp → b ≠ stackAddr (s.sp - 1) → u.peek b = s.peek b

/-- R285, R306, R308, R348: with the three stack locations of an entry in `ram`, the RTI of a handler that leaves the three pushed bytes in
storage and S where the entry left them returns from a BRK to its address plus 2, and from an IRQ or NMI to the instruction not yet begun,
with all six flags as they were, whatever the handler left in every other part of the state: A, X, Y, the flags, pc, all other bytes. -/
def Obligations.RtiUndoesAnEntry : Prop :=
  ∀ (s t h : State) (ret vector : Addr) (brk : Bool), EntryEffect ret brk vector s t →
    (∀ k ∈ [s.sp, s.sp - 1, s.sp - 2],
      s.kindAt (stackAddr k) = .ram ∧ Stored h (stackAddr k) ∧ h.peek (stackAddr k) = t.peek (stackAddr k)) →
    h.sp = t.sp →
    Answers .rti h { h with sp := s.sp, p := s.p, pc := ret }

/-- R280 to R283: with the stack location in `ram`, PLA after PHA gives A back and PLP after PHP the flags, with S as before. -/
def Obligations.PullsUndoPushes : Prop :=
  ∀ (s : State) (acc : Byte) (f : Flags), s.kindAt (stackAddr s.sp) = .ram →
    (∃ t u, exec .pha s = .next t ∧ exec .pla { t with a := acc } = .next u ∧ u.a = s.a ∧ u.sp = s.sp ∧ u.pc = s.pc + 2) ∧
    (∃ t u, exec .php s = .next t ∧ exec .plp { t with p := f } = .next u ∧ u.p = s.p ∧ u.sp = s.sp ∧ u.pc = s.pc + 2)

/-- R64: a fetch reads storage as it stands: at whatever state, bytes that lie stored at pc are decoded. So after any store (STA, STX, STY in
every mode) whose effective address is the next pc, in `ram`, the next instruction begins with the byte stored, and is the one which that
byte and the stored bytes after it encode. -/
def Obligations.StoreIsSeenByTheNextFetch : Prop :=
  (∀ (t : State) (j : Instr),
    (∀ (k : Nat) (b : Byte), (encode j)[k]? = some b →
      Stored t (t.pc + BitVec.ofNat 16 k) ∧ t.peek (t.pc + BitVec.ofNat 16 k) = b) →
    fetch t = .ok (j, t)) ∧
  (∀ (s : State) (i j : Instr) (m : MemMode) (v : Byte),
    (i.mnemonic = .sta ∧ v = s.a) ∨ (i.mnemonic = .stx ∧ v = s.x) ∨ (i.mnemonic = .sty ∧ v = s.y) → memOf i = some m →
    (effAddr m s).1 = s.pc + BitVec.ofNat 16 i.length → s.kindAt (effAddr m s).1 = .ram → j.opcode = v →
    (∀ (k : Nat) (b : Byte), (encode j)[k + 1]? = some b →
      Stored s ((effAddr m s).1 + BitVec.ofNat 16 (k + 1)) ∧ s.peek ((effAddr m s).1 + BitVec.ofNat 16 (k + 1)) = b) →
    ∃ t, exec i s = .next t ∧ fetch t = .ok (j, t))

/-- R350 to R352 (informative, entry 14): each of the eight branches takes 2 cycles when not taken, 3 when taken, 4 when taken to another page
than the next instruction's; each of the 23 rows with the note one more than its `time` exactly when the low bytes' sum carries; every other
row its `time`. -/
def Obligations.CyclesFollowTheNotes : Prop :=
  ∀ (s : State) (d n : Byte) (a : Addr),
    (∀ r ∈ [(Instr.bpl d, !s.p.n), (.bmi d, s.p.n), (.bvc d, !s.p.v), (.bvs d, s.p.v), (.bcc d, !s.p.c), (.bcs d, s.p.c), (.bne d, !s.p.z),
        (.beq d, s.p.z)],
      cycles r.1 s = if r.2 then (if hiByte (s.pc + 2 + sext16 d) = hiByte (s.pc + 2) then 3 else 4) else 2) ∧
    (∀ i ∈ [Instr.adcAbx a, .andAbx a, .cmpAbx a, .eorAbx a, .ldaAbx a, .oraAbx a, .sbcAbx a, .ldyAbx a],
      cycles i s = if 256 ≤ a.toNat % 256 + s.x.toNat then 5 else 4) ∧
    (∀ i ∈ [Instr.adcAby a, .andAby a, .cmpAby a, .eorAby a, .ldaAby a, .oraAby a, .sbcAby a, .ldxAby a],
      cycles i s = if 256 ≤ a.toNat % 256 + s.y.toNat then 5 else 4) ∧
    (∀ i ∈ [Instr.adcIzy n, .andIzy n, .cmpIzy n, .eorIzy n, .ldaIzy n, .oraIzy n, .sbcIzy n],
      cycles i s = if 256 ≤ (memRead (zeroPage n) s).1.toNat + s.y.toNat then 6 else 5) ∧
    (∀ i : Instr, i.mode ∉ [Mode.rel, .abx, .aby, .izy] → cycles i s = instrTime i) ∧
    (∀ i : Instr, accessClass i.mnemonic ≠ .read → accessClass i.mnemonic ≠ .branch → cycles i s = instrTime i) ∧
    cycles (.staAbx a) s = 5 ∧ cycles (.staAby a) s = 5 ∧ cycles (.staIzy n) s = 6 ∧ cycles (.incAbx a) s = 7 ∧ cycles (.aslAbx a) s = 7 ∧
    cycles (.incAbs a) s = 6 ∧ cycles .brk s = 7

/-- R354: a run that the harness's predicate ends, ends in a state where it holds, and the invariant holds there if it held at the start.
The run and its predicate are the model's (entry 15). -/
def Obligations.HaltedRunsSatisfyTheHarness : Prop :=
  ∀ (halt : State → Bool) (fuel : Nat) (s t : State),
    runUntil halt fuel s = .halted t → halt t = true ∧ (Safety.Inv s → Safety.Inv t)

/-- R85 to R94, R66: what the operand of a reading instruction is: the immediate byte, or the byte read at the effective address; and the
pointer of the two indirect modes, two reads in page zero, for a pointer in locations of every kind. The byte read from `io` and `unmapped` is
a draw (entry 5). -/
def Obligations.OperandsAreReadAtTheirEffectiveAddress : Prop :=
  ∀ (n : Byte) (m : MemMode) (s : State),
    readSource (.imm n) s = (n, s) ∧
    readSource (.mem m) s = memRead (effAddr m s).1 (effAddr m s).2 ∧
    (let lo := memRead (zeroPage (n + s.x)) s
     let hi := memRead (zeroPage (n + s.x + 1)) lo.2
     effAddr (.izx n) s = (mkAddr hi.1 lo.1, hi.2)) ∧
    (let lo := memRead (zeroPage n) s
     let hi := memRead (zeroPage (n + 1)) lo.2
     effAddr (.izy n) s = (mkAddr hi.1 lo.1 + zext16 s.y, hi.2))
end

