-- ==== Sys2Proof/Laws/Bits.lean ====
section
/-! SUPPORT. Taking addresses apart and putting them together. -/

namespace Sys2Proof

@[simp] theorem loByte_mkAddr (h l : Byte) : loByte (mkAddr h l) = l := by
  unfold loByte mkAddr
  ext i hi
  rw [BitVec.getElem_extractLsb', BitVec.getLsbD_append]
  simp [hi]

@[simp] theorem hiByte_mkAddr (h l : Byte) : hiByte (mkAddr h l) = h := by
  unfold hiByte mkAddr
  ext i hi
  rw [BitVec.getElem_extractLsb', BitVec.getLsbD_append]
  simp [hi]

@[simp] theorem mkAddr_hiByte_loByte (a : Addr) : mkAddr (hiByte a) (loByte a) = a := by
  unfold mkAddr hiByte loByte
  apply BitVec.eq_of_getLsbD_eq
  intro i hi
  rw [BitVec.getLsbD_append]
  split
  · simp [*]
  · have h8 : 8 + (i - 8) = i := by omega
    have h9 : i - 8 < 8 := by omega
    simp [h8, h9]

theorem mkAddr_inj {h l h' l' : Byte} (e : mkAddr h l = mkAddr h' l') : h = h' ∧ l = l' :=
  ⟨by simpa using congrArg hiByte e, by simpa using congrArg loByte e⟩

theorem stackAddr_inj {j k : Byte} (e : stackAddr j = stackAddr k) : j = k := (mkAddr_inj e).2

end Sys2Proof
end

