-- ==== Sys2Proof/Laws/Memory.lean ====
section
/-! SUPPORT. The laws of storage: what a read after a write gives, and that every operation keeps the canonical form. -/

namespace Sys2Proof.Machine

theorem Memory.read_erase_same (m : Memory) (k : Nat) : (m.erase k).read k = Memory.blank := by
  induction m with
  | nil => rfl
  | cons c r ih =>
    obtain ⟨a, v⟩ := c
    by_cases h : a = k
    · simpa [Memory.erase, h] using ih
    · simpa [Memory.erase, Memory.read, h] using ih

theorem Memory.read_erase_other (m : Memory) (k j : Nat) (h : j ≠ k) : (m.erase k).read j = m.read j := by
  induction m with
  | nil => rfl
  | cons c r ih =>
    obtain ⟨a, v⟩ := c
    by_cases hk : a = k
    · subst hk
      simpa [Memory.erase, Memory.read, Ne.symm h] using ih
    · by_cases hj : a = j
      · simp [Memory.erase, Memory.read, hj, h]
      · simpa [Memory.erase, Memory.read, hk, hj] using ih

theorem Memory.read_insert_same (m : Memory) (k : Nat) (v : Byte) (h : ∀ c ∈ m, c.1 ≠ k) : (m.insert k v).read k = v := by
  induction m with
  | nil => simp [Memory.insert, Memory.read]
  | cons c r ih =>
    obtain ⟨a, u⟩ := c
    have ha : a ≠ k := h (a, u) (by simp)
    by_cases hk : k < a
    · simp [Memory.insert, Memory.read, hk]
    · simpa [Memory.insert, Memory.read, hk, ha] using ih fun c hc => h c (by simp [hc])

theorem Memory.read_insert_other (m : Memory) (k j : Nat) (v : Byte) (h : j ≠ k) : (m.insert k v).read j = m.read j := by
  induction m with
  | nil => simp [Memory.insert, Memory.read, Ne.symm h]
  | cons c r ih =>
    obtain ⟨a, u⟩ := c
    by_cases hk : k < a
    · simp [Memory.insert, Memory.read, hk, Ne.symm h]
    · simp [Memory.insert, Memory.read, hk, ih]

theorem Memory.erase_absent (m : Memory) (k : Nat) : ∀ c ∈ m.erase k, c.1 ≠ k := by
  intro c hc
  simpa using (List.mem_filter.mp hc).2

/-- A read after a write at the same address. -/
@[simp] theorem Memory.read_write_same (m : Memory) (k : Nat) (v : Byte) : (m.write k v).read k = v := by
  unfold Memory.write
  split
  · next h => simp [Memory.read_erase_same, h]
  · exact Memory.read_insert_same _ k v (Memory.erase_absent m k)

/-- A write leaves every other address alone. -/
theorem Memory.read_write_other (m : Memory) (k j : Nat) (v : Byte) (h : j ≠ k) : (m.write k v).read j = m.read j := by
  unfold Memory.write
  split
  · exact Memory.read_erase_other m k j h
  · rw [Memory.read_insert_other _ k j v h, Memory.read_erase_other m k j h]

theorem Memory.wfFrom_mono (m : Memory) (lo lo' : Nat) (h : lo' ≤ lo) (w : m.wfFrom lo = true) : m.wfFrom lo' = true := by
  cases m with
  | nil => rfl
  | cons c r =>
    obtain ⟨a, v⟩ := c
    simp only [Memory.wfFrom, Bool.and_eq_true, decide_eq_true_eq] at w ⊢
    exact ⟨⟨⟨by omega, w.1.1.2⟩, w.1.2⟩, w.2⟩

theorem Memory.erase_wfFrom (m : Memory) (k lo : Nat) (w : m.wfFrom lo = true) : (m.erase k).wfFrom lo = true := by
  induction m generalizing lo with
  | nil => rfl
  | cons c r ih =>
    obtain ⟨a, v⟩ := c
    simp only [Memory.wfFrom, Bool.and_eq_true, decide_eq_true_eq] at w
    by_cases h : a = k
    · simpa [Memory.erase, h] using ih lo (Memory.wfFrom_mono r (a + 1) lo (by omega) w.2)
    · simpa [Memory.erase, Memory.wfFrom, h, w.1.1.1, w.1.1.2, w.1.2] using ih (a + 1) w.2

theorem Memory.insert_wfFrom (m : Memory) (k lo : Nat) (v : Byte) (w : m.wfFrom lo = true) (hlo : lo ≤ k) (hk : k < Memory.size)
    (hv : v ≠ Memory.blank) (h : ∀ c ∈ m, c.1 ≠ k) : (m.insert k v).wfFrom lo = true := by
  induction m generalizing lo with
  | nil => simp [Memory.insert, Memory.wfFrom, hlo, hk, hv]
  | cons c r ih =>
    obtain ⟨a, u⟩ := c
    have ha : a ≠ k := h (a, u) (by simp)
    simp only [Memory.wfFrom, Bool.and_eq_true, decide_eq_true_eq] at w
    by_cases hka : k < a
    · have : k + 1 ≤ a := by omega
      simp [Memory.insert, hka, Memory.wfFrom, hlo, hk, hv, this, w.1.1.2, w.1.2, w.2]
    · have := ih (a + 1) w.2 (by omega) fun c hc => h c (by simp [hc])
      simp [Memory.insert, hka, Memory.wfFrom, w.1.1.1, w.1.1.2, w.1.2, this]

/-- A write keeps the canonical form. -/
theorem Memory.write_wf (m : Memory) (k : Nat) (v : Byte) (hk : k < Memory.size) (w : m.wf = true) : (m.write k v).wf = true := by
  unfold Memory.write
  split
  · exact Memory.erase_wfFrom m k 0 w
  · next hv => exact Memory.insert_wfFrom _ k 0 v (Memory.erase_wfFrom m k 0 w) (Nat.zero_le k) hk hv (Memory.erase_absent m k)

end Sys2Proof.Machine
end

