-- ==== Sys2Proof/Laws/State.lean ====
section
/-! SUPPORT. One lemma per field per update of State, true by rfl, so that no later proof unfolds a record update. -/

namespace Sys2Proof.Machine

variable (s : State)

@[simp] theorem State.setA_a (v : Byte) : (s.setA v).a = v := rfl
@[simp] theorem State.setA_x (v : Byte) : (s.setA v).x = s.x := rfl
@[simp] theorem State.setA_y (v : Byte) : (s.setA v).y = s.y := rfl
@[simp] theorem State.setA_sp (v : Byte) : (s.setA v).sp = s.sp := rfl
@[simp] theorem State.setA_pc (v : Byte) : (s.setA v).pc = s.pc := rfl
@[simp] theorem State.setA_p (v : Byte) : (s.setA v).p = s.p := rfl
@[simp] theorem State.setA_mem (v : Byte) : (s.setA v).mem = s.mem := rfl
@[simp] theorem State.setA_nmiPending (v : Byte) : (s.setA v).nmiPending = s.nmiPending := rfl
@[simp] theorem State.setA_iBefore (v : Byte) : (s.setA v).iBefore = s.iBefore := rfl
@[simp] theorem State.setA_bus (v : Byte) : (s.setA v).bus = s.bus := rfl
@[simp] theorem State.setA_env (v : Byte) : (s.setA v).env = s.env := rfl
@[simp] theorem State.setA_envEnd (v : Byte) : (s.setA v).envEnd = s.envEnd := rfl
@[simp] theorem State.setA_ioTrace (v : Byte) : (s.setA v).ioTrace = s.ioTrace := rfl
@[simp] theorem State.setA_draws (v : Byte) : (s.setA v).draws = s.draws := rfl

@[simp] theorem State.setX_a (v : Byte) : (s.setX v).a = s.a := rfl
@[simp] theorem State.setX_x (v : Byte) : (s.setX v).x = v := rfl
@[simp] theorem State.setX_y (v : Byte) : (s.setX v).y = s.y := rfl
@[simp] theorem State.setX_sp (v : Byte) : (s.setX v).sp = s.sp := rfl
@[simp] theorem State.setX_pc (v : Byte) : (s.setX v).pc = s.pc := rfl
@[simp] theorem State.setX_p (v : Byte) : (s.setX v).p = s.p := rfl
@[simp] theorem State.setX_mem (v : Byte) : (s.setX v).mem = s.mem := rfl
@[simp] theorem State.setX_nmiPending (v : Byte) : (s.setX v).nmiPending = s.nmiPending := rfl
@[simp] theorem State.setX_iBefore (v : Byte) : (s.setX v).iBefore = s.iBefore := rfl
@[simp] theorem State.setX_bus (v : Byte) : (s.setX v).bus = s.bus := rfl
@[simp] theorem State.setX_env (v : Byte) : (s.setX v).env = s.env := rfl
@[simp] theorem State.setX_envEnd (v : Byte) : (s.setX v).envEnd = s.envEnd := rfl
@[simp] theorem State.setX_ioTrace (v : Byte) : (s.setX v).ioTrace = s.ioTrace := rfl
@[simp] theorem State.setX_draws (v : Byte) : (s.setX v).draws = s.draws := rfl

@[simp] theorem State.setY_a (v : Byte) : (s.setY v).a = s.a := rfl
@[simp] theorem State.setY_x (v : Byte) : (s.setY v).x = s.x := rfl
@[simp] theorem State.setY_y (v : Byte) : (s.setY v).y = v := rfl
@[simp] theorem State.setY_sp (v : Byte) : (s.setY v).sp = s.sp := rfl
@[simp] theorem State.setY_pc (v : Byte) : (s.setY v).pc = s.pc := rfl
@[simp] theorem State.setY_p (v : Byte) : (s.setY v).p = s.p := rfl
@[simp] theorem State.setY_mem (v : Byte) : (s.setY v).mem = s.mem := rfl
@[simp] theorem State.setY_nmiPending (v : Byte) : (s.setY v).nmiPending = s.nmiPending := rfl
@[simp] theorem State.setY_iBefore (v : Byte) : (s.setY v).iBefore = s.iBefore := rfl
@[simp] theorem State.setY_bus (v : Byte) : (s.setY v).bus = s.bus := rfl
@[simp] theorem State.setY_env (v : Byte) : (s.setY v).env = s.env := rfl
@[simp] theorem State.setY_envEnd (v : Byte) : (s.setY v).envEnd = s.envEnd := rfl
@[simp] theorem State.setY_ioTrace (v : Byte) : (s.setY v).ioTrace = s.ioTrace := rfl
@[simp] theorem State.setY_draws (v : Byte) : (s.setY v).draws = s.draws := rfl

@[simp] theorem State.setSp_a (v : Byte) : (s.setSp v).a = s.a := rfl
@[simp] theorem State.setSp_x (v : Byte) : (s.setSp v).x = s.x := rfl
@[simp] theorem State.setSp_y (v : Byte) : (s.setSp v).y = s.y := rfl
@[simp] theorem State.setSp_sp (v : Byte) : (s.setSp v).sp = v := rfl
@[simp] theorem State.setSp_pc (v : Byte) : (s.setSp v).pc = s.pc := rfl
@[simp] theorem State.setSp_p (v : Byte) : (s.setSp v).p = s.p := rfl
@[simp] theorem State.setSp_mem (v : Byte) : (s.setSp v).mem = s.mem := rfl
@[simp] theorem State.setSp_nmiPending (v : Byte) : (s.setSp v).nmiPending = s.nmiPending := rfl
@[simp] theorem State.setSp_iBefore (v : Byte) : (s.setSp v).iBefore = s.iBefore := rfl
@[simp] theorem State.setSp_bus (v : Byte) : (s.setSp v).bus = s.bus := rfl
@[simp] theorem State.setSp_env (v : Byte) : (s.setSp v).env = s.env := rfl
@[simp] theorem State.setSp_envEnd (v : Byte) : (s.setSp v).envEnd = s.envEnd := rfl
@[simp] theorem State.setSp_ioTrace (v : Byte) : (s.setSp v).ioTrace = s.ioTrace := rfl
@[simp] theorem State.setSp_draws (v : Byte) : (s.setSp v).draws = s.draws := rfl

@[simp] theorem State.setPc_a (t : Addr) : (s.setPc t).a = s.a := rfl
@[simp] theorem State.setPc_x (t : Addr) : (s.setPc t).x = s.x := rfl
@[simp] theorem State.setPc_y (t : Addr) : (s.setPc t).y = s.y := rfl
@[simp] theorem State.setPc_sp (t : Addr) : (s.setPc t).sp = s.sp := rfl
@[simp] theorem State.setPc_pc (t : Addr) : (s.setPc t).pc = t := rfl
@[simp] theorem State.setPc_p (t : Addr) : (s.setPc t).p = s.p := rfl
@[simp] theorem State.setPc_mem (t : Addr) : (s.setPc t).mem = s.mem := rfl
@[simp] theorem State.setPc_nmiPending (t : Addr) : (s.setPc t).nmiPending = s.nmiPending := rfl
@[simp] theorem State.setPc_iBefore (t : Addr) : (s.setPc t).iBefore = s.iBefore := rfl
@[simp] theorem State.setPc_bus (t : Addr) : (s.setPc t).bus = s.bus := rfl
@[simp] theorem State.setPc_env (t : Addr) : (s.setPc t).env = s.env := rfl
@[simp] theorem State.setPc_envEnd (t : Addr) : (s.setPc t).envEnd = s.envEnd := rfl
@[simp] theorem State.setPc_ioTrace (t : Addr) : (s.setPc t).ioTrace = s.ioTrace := rfl
@[simp] theorem State.setPc_draws (t : Addr) : (s.setPc t).draws = s.draws := rfl

@[simp] theorem State.setP_a (f : Flags) : (s.setP f).a = s.a := rfl
@[simp] theorem State.setP_x (f : Flags) : (s.setP f).x = s.x := rfl
@[simp] theorem State.setP_y (f : Flags) : (s.setP f).y = s.y := rfl
@[simp] theorem State.setP_sp (f : Flags) : (s.setP f).sp = s.sp := rfl
@[simp] theorem State.setP_pc (f : Flags) : (s.setP f).pc = s.pc := rfl
@[simp] theorem State.setP_p (f : Flags) : (s.setP f).p = f := rfl
@[simp] theorem State.setP_mem (f : Flags) : (s.setP f).mem = s.mem := rfl
@[simp] theorem State.setP_nmiPending (f : Flags) : (s.setP f).nmiPending = s.nmiPending := rfl
@[simp] theorem State.setP_iBefore (f : Flags) : (s.setP f).iBefore = s.iBefore := rfl
@[simp] theorem State.setP_bus (f : Flags) : (s.setP f).bus = s.bus := rfl
@[simp] theorem State.setP_env (f : Flags) : (s.setP f).env = s.env := rfl
@[simp] theorem State.setP_envEnd (f : Flags) : (s.setP f).envEnd = s.envEnd := rfl
@[simp] theorem State.setP_ioTrace (f : Flags) : (s.setP f).ioTrace = s.ioTrace := rfl
@[simp] theorem State.setP_draws (f : Flags) : (s.setP f).draws = s.draws := rfl

@[simp] theorem State.setMem_a (m : Memory) : (s.setMem m).a = s.a := rfl
@[simp] theorem State.setMem_x (m : Memory) : (s.setMem m).x = s.x := rfl
@[simp] theorem State.setMem_y (m : Memory) : (s.setMem m).y = s.y := rfl
@[simp] theorem State.setMem_sp (m : Memory) : (s.setMem m).sp = s.sp := rfl
@[simp] theorem State.setMem_pc (m : Memory) : (s.setMem m).pc = s.pc := rfl
@[simp] theorem State.setMem_p (m : Memory) : (s.setMem m).p = s.p := rfl
@[simp] theorem State.setMem_mem (m : Memory) : (s.setMem m).mem = m := rfl
@[simp] theorem State.setMem_nmiPending (m : Memory) : (s.setMem m).nmiPending = s.nmiPending := rfl
@[simp] theorem State.setMem_iBefore (m : Memory) : (s.setMem m).iBefore = s.iBefore := rfl
@[simp] theorem State.setMem_bus (m : Memory) : (s.setMem m).bus = s.bus := rfl
@[simp] theorem State.setMem_env (m : Memory) : (s.setMem m).env = s.env := rfl
@[simp] theorem State.setMem_envEnd (m : Memory) : (s.setMem m).envEnd = s.envEnd := rfl
@[simp] theorem State.setMem_ioTrace (m : Memory) : (s.setMem m).ioTrace = s.ioTrace := rfl
@[simp] theorem State.setMem_draws (m : Memory) : (s.setMem m).draws = s.draws := rfl

@[simp] theorem State.setNmiPending_a (b : Bool) : (s.setNmiPending b).a = s.a := rfl
@[simp] theorem State.setNmiPending_x (b : Bool) : (s.setNmiPending b).x = s.x := rfl
@[simp] theorem State.setNmiPending_y (b : Bool) : (s.setNmiPending b).y = s.y := rfl
@[simp] theorem State.setNmiPending_sp (b : Bool) : (s.setNmiPending b).sp = s.sp := rfl
@[simp] theorem State.setNmiPending_pc (b : Bool) : (s.setNmiPending b).pc = s.pc := rfl
@[simp] theorem State.setNmiPending_p (b : Bool) : (s.setNmiPending b).p = s.p := rfl
@[simp] theorem State.setNmiPending_mem (b : Bool) : (s.setNmiPending b).mem = s.mem := rfl
@[simp] theorem State.setNmiPending_nmiPending (b : Bool) : (s.setNmiPending b).nmiPending = b := rfl
@[simp] theorem State.setNmiPending_iBefore (b : Bool) : (s.setNmiPending b).iBefore = s.iBefore := rfl
@[simp] theorem State.setNmiPending_bus (b : Bool) : (s.setNmiPending b).bus = s.bus := rfl
@[simp] theorem State.setNmiPending_env (b : Bool) : (s.setNmiPending b).env = s.env := rfl
@[simp] theorem State.setNmiPending_envEnd (b : Bool) : (s.setNmiPending b).envEnd = s.envEnd := rfl
@[simp] theorem State.setNmiPending_ioTrace (b : Bool) : (s.setNmiPending b).ioTrace = s.ioTrace := rfl
@[simp] theorem State.setNmiPending_draws (b : Bool) : (s.setNmiPending b).draws = s.draws := rfl

@[simp] theorem State.setIBefore_a (b : Option Bool) : (s.setIBefore b).a = s.a := rfl
@[simp] theorem State.setIBefore_x (b : Option Bool) : (s.setIBefore b).x = s.x := rfl
@[simp] theorem State.setIBefore_y (b : Option Bool) : (s.setIBefore b).y = s.y := rfl
@[simp] theorem State.setIBefore_sp (b : Option Bool) : (s.setIBefore b).sp = s.sp := rfl
@[simp] theorem State.setIBefore_pc (b : Option Bool) : (s.setIBefore b).pc = s.pc := rfl
@[simp] theorem State.setIBefore_p (b : Option Bool) : (s.setIBefore b).p = s.p := rfl
@[simp] theorem State.setIBefore_mem (b : Option Bool) : (s.setIBefore b).mem = s.mem := rfl
@[simp] theorem State.setIBefore_nmiPending (b : Option Bool) : (s.setIBefore b).nmiPending = s.nmiPending := rfl
@[simp] theorem State.setIBefore_iBefore (b : Option Bool) : (s.setIBefore b).iBefore = b := rfl
@[simp] theorem State.setIBefore_bus (b : Option Bool) : (s.setIBefore b).bus = s.bus := rfl
@[simp] theorem State.setIBefore_env (b : Option Bool) : (s.setIBefore b).env = s.env := rfl
@[simp] theorem State.setIBefore_envEnd (b : Option Bool) : (s.setIBefore b).envEnd = s.envEnd := rfl
@[simp] theorem State.setIBefore_ioTrace (b : Option Bool) : (s.setIBefore b).ioTrace = s.ioTrace := rfl
@[simp] theorem State.setIBefore_draws (b : Option Bool) : (s.setIBefore b).draws = s.draws := rfl

@[simp] theorem State.setBus_a (b : BusMap) : (s.setBus b).a = s.a := rfl
@[simp] theorem State.setBus_x (b : BusMap) : (s.setBus b).x = s.x := rfl
@[simp] theorem State.setBus_y (b : BusMap) : (s.setBus b).y = s.y := rfl
@[simp] theorem State.setBus_sp (b : BusMap) : (s.setBus b).sp = s.sp := rfl
@[simp] theorem State.setBus_pc (b : BusMap) : (s.setBus b).pc = s.pc := rfl
@[simp] theorem State.setBus_p (b : BusMap) : (s.setBus b).p = s.p := rfl
@[simp] theorem State.setBus_mem (b : BusMap) : (s.setBus b).mem = s.mem := rfl
@[simp] theorem State.setBus_nmiPending (b : BusMap) : (s.setBus b).nmiPending = s.nmiPending := rfl
@[simp] theorem State.setBus_iBefore (b : BusMap) : (s.setBus b).iBefore = s.iBefore := rfl
@[simp] theorem State.setBus_bus (b : BusMap) : (s.setBus b).bus = b := rfl
@[simp] theorem State.setBus_env (b : BusMap) : (s.setBus b).env = s.env := rfl
@[simp] theorem State.setBus_envEnd (b : BusMap) : (s.setBus b).envEnd = s.envEnd := rfl
@[simp] theorem State.setBus_ioTrace (b : BusMap) : (s.setBus b).ioTrace = s.ioTrace := rfl
@[simp] theorem State.setBus_draws (b : BusMap) : (s.setBus b).draws = s.draws := rfl

@[simp] theorem State.setEnv_a (e : List Inputs) : (s.setEnv e).a = s.a := rfl
@[simp] theorem State.setEnv_x (e : List Inputs) : (s.setEnv e).x = s.x := rfl
@[simp] theorem State.setEnv_y (e : List Inputs) : (s.setEnv e).y = s.y := rfl
@[simp] theorem State.setEnv_sp (e : List Inputs) : (s.setEnv e).sp = s.sp := rfl
@[simp] theorem State.setEnv_pc (e : List Inputs) : (s.setEnv e).pc = s.pc := rfl
@[simp] theorem State.setEnv_p (e : List Inputs) : (s.setEnv e).p = s.p := rfl
@[simp] theorem State.setEnv_mem (e : List Inputs) : (s.setEnv e).mem = s.mem := rfl
@[simp] theorem State.setEnv_nmiPending (e : List Inputs) : (s.setEnv e).nmiPending = s.nmiPending := rfl
@[simp] theorem State.setEnv_iBefore (e : List Inputs) : (s.setEnv e).iBefore = s.iBefore := rfl
@[simp] theorem State.setEnv_bus (e : List Inputs) : (s.setEnv e).bus = s.bus := rfl
@[simp] theorem State.setEnv_env (e : List Inputs) : (s.setEnv e).env = e := rfl
@[simp] theorem State.setEnv_envEnd (e : List Inputs) : (s.setEnv e).envEnd = s.envEnd := rfl
@[simp] theorem State.setEnv_ioTrace (e : List Inputs) : (s.setEnv e).ioTrace = s.ioTrace := rfl
@[simp] theorem State.setEnv_draws (e : List Inputs) : (s.setEnv e).draws = s.draws := rfl

@[simp] theorem State.setEnvEnd_a (e : EnvEnd) : (s.setEnvEnd e).a = s.a := rfl
@[simp] theorem State.setEnvEnd_x (e : EnvEnd) : (s.setEnvEnd e).x = s.x := rfl
@[simp] theorem State.setEnvEnd_y (e : EnvEnd) : (s.setEnvEnd e).y = s.y := rfl
@[simp] theorem State.setEnvEnd_sp (e : EnvEnd) : (s.setEnvEnd e).sp = s.sp := rfl
@[simp] theorem State.setEnvEnd_pc (e : EnvEnd) : (s.setEnvEnd e).pc = s.pc := rfl
@[simp] theorem State.setEnvEnd_p (e : EnvEnd) : (s.setEnvEnd e).p = s.p := rfl
@[simp] theorem State.setEnvEnd_mem (e : EnvEnd) : (s.setEnvEnd e).mem = s.mem := rfl
@[simp] theorem State.setEnvEnd_nmiPending (e : EnvEnd) : (s.setEnvEnd e).nmiPending = s.nmiPending := rfl
@[simp] theorem State.setEnvEnd_iBefore (e : EnvEnd) : (s.setEnvEnd e).iBefore = s.iBefore := rfl
@[simp] theorem State.setEnvEnd_bus (e : EnvEnd) : (s.setEnvEnd e).bus = s.bus := rfl
@[simp] theorem State.setEnvEnd_env (e : EnvEnd) : (s.setEnvEnd e).env = s.env := rfl
@[simp] theorem State.setEnvEnd_envEnd (e : EnvEnd) : (s.setEnvEnd e).envEnd = e := rfl
@[simp] theorem State.setEnvEnd_ioTrace (e : EnvEnd) : (s.setEnvEnd e).ioTrace = s.ioTrace := rfl
@[simp] theorem State.setEnvEnd_draws (e : EnvEnd) : (s.setEnvEnd e).draws = s.draws := rfl

@[simp] theorem State.setDraws_a (k : Nat) : (s.setDraws k).a = s.a := rfl
@[simp] theorem State.setDraws_x (k : Nat) : (s.setDraws k).x = s.x := rfl
@[simp] theorem State.setDraws_y (k : Nat) : (s.setDraws k).y = s.y := rfl
@[simp] theorem State.setDraws_sp (k : Nat) : (s.setDraws k).sp = s.sp := rfl
@[simp] theorem State.setDraws_pc (k : Nat) : (s.setDraws k).pc = s.pc := rfl
@[simp] theorem State.setDraws_p (k : Nat) : (s.setDraws k).p = s.p := rfl
@[simp] theorem State.setDraws_mem (k : Nat) : (s.setDraws k).mem = s.mem := rfl
@[simp] theorem State.setDraws_nmiPending (k : Nat) : (s.setDraws k).nmiPending = s.nmiPending := rfl
@[simp] theorem State.setDraws_iBefore (k : Nat) : (s.setDraws k).iBefore = s.iBefore := rfl
@[simp] theorem State.setDraws_bus (k : Nat) : (s.setDraws k).bus = s.bus := rfl
@[simp] theorem State.setDraws_env (k : Nat) : (s.setDraws k).env = s.env := rfl
@[simp] theorem State.setDraws_envEnd (k : Nat) : (s.setDraws k).envEnd = s.envEnd := rfl
@[simp] theorem State.setDraws_ioTrace (k : Nat) : (s.setDraws k).ioTrace = s.ioTrace := rfl
@[simp] theorem State.setDraws_draws (k : Nat) : (s.setDraws k).draws = k := rfl

@[simp] theorem State.logIo_a (e : IoEvent) : (s.logIo e).a = s.a := rfl
@[simp] theorem State.logIo_x (e : IoEvent) : (s.logIo e).x = s.x := rfl
@[simp] theorem State.logIo_y (e : IoEvent) : (s.logIo e).y = s.y := rfl
@[simp] theorem State.logIo_sp (e : IoEvent) : (s.logIo e).sp = s.sp := rfl
@[simp] theorem State.logIo_pc (e : IoEvent) : (s.logIo e).pc = s.pc := rfl
@[simp] theorem State.logIo_p (e : IoEvent) : (s.logIo e).p = s.p := rfl
@[simp] theorem State.logIo_mem (e : IoEvent) : (s.logIo e).mem = s.mem := rfl
@[simp] theorem State.logIo_nmiPending (e : IoEvent) : (s.logIo e).nmiPending = s.nmiPending := rfl
@[simp] theorem State.logIo_iBefore (e : IoEvent) : (s.logIo e).iBefore = s.iBefore := rfl
@[simp] theorem State.logIo_bus (e : IoEvent) : (s.logIo e).bus = s.bus := rfl
@[simp] theorem State.logIo_env (e : IoEvent) : (s.logIo e).env = s.env := rfl
@[simp] theorem State.logIo_envEnd (e : IoEvent) : (s.logIo e).envEnd = s.envEnd := rfl
@[simp] theorem State.logIo_ioTrace (e : IoEvent) : (s.logIo e).ioTrace = e :: s.ioTrace := rfl
@[simp] theorem State.logIo_draws (e : IoEvent) : (s.logIo e).draws = s.draws := rfl

end Sys2Proof.Machine
end

