-- ==== Sys2Proof/Laws/Ops.lean ====
section
/-! SUPPORT. What the shared operations can do, said once: a read leaves everything but the draw counter and the `io` trace; a write
changes at most storage or the `io` trace; a push and a pull add the stack pointer. The provers cite these instead of unfolding. -/

namespace Sys2Proof.Machine

/-- What a read can do, whole (20_memory.md R51). -/
theorem memRead_cases (a : Addr) (s : State) :
    ((s.kindAt a).isStorage = true ∧ memRead a s = (s.peek a, s)) ∨
    (s.kindAt a = .io ∧
      memRead a s = (Config.freeByte s.draws, (s.setDraws (s.draws + 1)).logIo (.read a (Config.freeByte s.draws)))) ∨
    (s.kindAt a = .unmapped ∧ memRead a s = (Config.freeByte s.draws, s.setDraws (s.draws + 1))) := by
  unfold memRead drawByte
  cases h : s.kindAt a <;> simp [RegionKind.isStorage]

/-- What a write can do, whole (20_memory.md R51). -/
theorem memWrite_cases (a : Addr) (v : Byte) (s : State) :
    (s.kindAt a = .ram ∧ memWrite a v s = s.setMem (s.mem.write a.toNat v)) ∨
    (s.kindAt a = .io ∧ memWrite a v s = s.logIo (.write a v)) ∨
    ((s.kindAt a = .rom ∨ s.kindAt a = .unmapped) ∧ memWrite a v s = s) := by
  unfold memWrite
  cases h : s.kindAt a <;> simp

/-- A read of a `ram` or `rom` location is pure. -/
theorem memRead_stored (a : Addr) (s : State) (h : (s.kindAt a).isStorage = true) : memRead a s = (s.peek a, s) := by
  rcases memRead_cases a s with ⟨_, e⟩ | ⟨k, _⟩ | ⟨k, _⟩
  · exact e
  · simp [k, RegionKind.isStorage] at h
  · simp [k, RegionKind.isStorage] at h

theorem State.peek_congr (s t : State) (h : t.mem = s.mem) (a : Addr) : t.peek a = s.peek a := by
  simp [State.peek, h]

theorem State.kindAt_congr (s t : State) (h : t.bus = s.bus) (a : Addr) : t.kindAt a = s.kindAt a := by
  simp [State.kindAt, h]

/-! Reads. -/

@[simp] theorem memRead_a (a : Addr) (s : State) : ((memRead a s).2).a = s.a := by
  rcases memRead_cases a s with ⟨_, e⟩ | ⟨_, e⟩ | ⟨_, e⟩ <;> simp [e]

@[simp] theorem memRead_x (a : Addr) (s : State) : ((memRead a s).2).x = s.x := by
  rcases memRead_cases a s with ⟨_, e⟩ | ⟨_, e⟩ | ⟨_, e⟩ <;> simp [e]

@[simp] theorem memRead_y (a : Addr) (s : State) : ((memRead a s).2).y = s.y := by
  rcases memRead_cases a s with ⟨_, e⟩ | ⟨_, e⟩ | ⟨_, e⟩ <;> simp [e]

@[simp] theorem memRead_sp (a : Addr) (s : State) : ((memRead a s).2).sp = s.sp := by
  rcases memRead_cases a s with ⟨_, e⟩ | ⟨_, e⟩ | ⟨_, e⟩ <;> simp [e]

@[simp] theorem memRead_pc (a : Addr) (s : State) : ((memRead a s).2).pc = s.pc := by
  rcases memRead_cases a s with ⟨_, e⟩ | ⟨_, e⟩ | ⟨_, e⟩ <;> simp [e]

@[simp] theorem memRead_p (a : Addr) (s : State) : ((memRead a s).2).p = s.p := by
  rcases memRead_cases a s with ⟨_, e⟩ | ⟨_, e⟩ | ⟨_, e⟩ <;> simp [e]

@[simp] theorem memRead_mem (a : Addr) (s : State) : ((memRead a s).2).mem = s.mem := by
  rcases memRead_cases a s with ⟨_, e⟩ | ⟨_, e⟩ | ⟨_, e⟩ <;> simp [e]

@[simp] theorem memRead_nmiPending (a : Addr) (s : State) : ((memRead a s).2).nmiPending = s.nmiPending := by
  rcases memRead_cases a s with ⟨_, e⟩ | ⟨_, e⟩ | ⟨_, e⟩ <;> simp [e]

@[simp] theorem memRead_iBefore (a : Addr) (s : State) : ((memRead a s).2).iBefore = s.iBefore := by
  rcases memRead_cases a s with ⟨_, e⟩ | ⟨_, e⟩ | ⟨_, e⟩ <;> simp [e]

@[simp] theorem memRead_bus (a : Addr) (s : State) : ((memRead a s).2).bus = s.bus := by
  rcases memRead_cases a s with ⟨_, e⟩ | ⟨_, e⟩ | ⟨_, e⟩ <;> simp [e]

@[simp] theorem memRead_env (a : Addr) (s : State) : ((memRead a s).2).env = s.env := by
  rcases memRead_cases a s with ⟨_, e⟩ | ⟨_, e⟩ | ⟨_, e⟩ <;> simp [e]

@[simp] theorem memRead_envEnd (a : Addr) (s : State) : ((memRead a s).2).envEnd = s.envEnd := by
  rcases memRead_cases a s with ⟨_, e⟩ | ⟨_, e⟩ | ⟨_, e⟩ <;> simp [e]

/-! Writes. -/

@[simp] theorem memWrite_a (a : Addr) (v : Byte) (s : State) : (memWrite a v s).a = s.a := by
  rcases memWrite_cases a v s with ⟨_, e⟩ | ⟨_, e⟩ | ⟨_, e⟩ <;> simp [e]

@[simp] theorem memWrite_x (a : Addr) (v : Byte) (s : State) : (memWrite a v s).x = s.x := by
  rcases memWrite_cases a v s with ⟨_, e⟩ | ⟨_, e⟩ | ⟨_, e⟩ <;> simp [e]

@[simp] theorem memWrite_y (a : Addr) (v : Byte) (s : State) : (memWrite a v s).y = s.y := by
  rcases memWrite_cases a v s with ⟨_, e⟩ | ⟨_, e⟩ | ⟨_, e⟩ <;> simp [e]

@[simp] theorem memWrite_sp (a : Addr) (v : Byte) (s : State) : (memWrite a v s).sp = s.sp := by
  rcases memWrite_cases a v s with ⟨_, e⟩ | ⟨_, e⟩ | ⟨_, e⟩ <;> simp [e]

@[simp] theorem memWrite_pc (a : Addr) (v : Byte) (s : State) : (memWrite a v s).pc = s.pc := by
  rcases memWrite_cases a v s with ⟨_, e⟩ | ⟨_, e⟩ | ⟨_, e⟩ <;> simp [e]

@[simp] theorem memWrite_p (a : Addr) (v : Byte) (s : State) : (memWrite a v s).p = s.p := by
  rcases memWrite_cases a v s with ⟨_, e⟩ | ⟨_, e⟩ | ⟨_, e⟩ <;> simp [e]

@[simp] theorem memWrite_nmiPending (a : Addr) (v : Byte) (s : State) : (memWrite a v s).nmiPending = s.nmiPending := by
  rcases memWrite_cases a v s with ⟨_, e⟩ | ⟨_, e⟩ | ⟨_, e⟩ <;> simp [e]

@[simp] theorem memWrite_iBefore (a : Addr) (v : Byte) (s : State) : (memWrite a v s).iBefore = s.iBefore := by
  rcases memWrite_cases a v s with ⟨_, e⟩ | ⟨_, e⟩ | ⟨_, e⟩ <;> simp [e]

@[simp] theorem memWrite_bus (a : Addr) (v : Byte) (s : State) : (memWrite a v s).bus = s.bus := by
  rcases memWrite_cases a v s with ⟨_, e⟩ | ⟨_, e⟩ | ⟨_, e⟩ <;> simp [e]

@[simp] theorem memWrite_env (a : Addr) (v : Byte) (s : State) : (memWrite a v s).env = s.env := by
  rcases memWrite_cases a v s with ⟨_, e⟩ | ⟨_, e⟩ | ⟨_, e⟩ <;> simp [e]

@[simp] theorem memWrite_envEnd (a : Addr) (v : Byte) (s : State) : (memWrite a v s).envEnd = s.envEnd := by
  rcases memWrite_cases a v s with ⟨_, e⟩ | ⟨_, e⟩ | ⟨_, e⟩ <;> simp [e]

@[simp] theorem memWrite_draws (a : Addr) (v : Byte) (s : State) : (memWrite a v s).draws = s.draws := by
  rcases memWrite_cases a v s with ⟨_, e⟩ | ⟨_, e⟩ | ⟨_, e⟩ <;> simp [e]

/-! 16-bit reads. -/

@[simp] theorem read16_a (a : Addr) (s : State) : ((read16 a s).2).a = s.a := by
  simp [read16]

@[simp] theorem read16_x (a : Addr) (s : State) : ((read16 a s).2).x = s.x := by
  simp [read16]

@[simp] theorem read16_y (a : Addr) (s : State) : ((read16 a s).2).y = s.y := by
  simp [read16]

@[simp] theorem read16_sp (a : Addr) (s : State) : ((read16 a s).2).sp = s.sp := by
  simp [read16]

@[simp] theorem read16_pc (a : Addr) (s : State) : ((read16 a s).2).pc = s.pc := by
  simp [read16]

@[simp] theorem read16_p (a : Addr) (s : State) : ((read16 a s).2).p = s.p := by
  simp [read16]

@[simp] theorem read16_mem (a : Addr) (s : State) : ((read16 a s).2).mem = s.mem := by
  simp [read16]

@[simp] theorem read16_nmiPending (a : Addr) (s : State) : ((read16 a s).2).nmiPending = s.nmiPending := by
  simp [read16]

@[simp] theorem read16_iBefore (a : Addr) (s : State) : ((read16 a s).2).iBefore = s.iBefore := by
  simp [read16]

@[simp] theorem read16_bus (a : Addr) (s : State) : ((read16 a s).2).bus = s.bus := by
  simp [read16]

@[simp] theorem read16_env (a : Addr) (s : State) : ((read16 a s).2).env = s.env := by
  simp [read16]

@[simp] theorem read16_envEnd (a : Addr) (s : State) : ((read16 a s).2).envEnd = s.envEnd := by
  simp [read16]

/-! Zero-page pointer reads. -/

@[simp] theorem read16zp_a (p : Byte) (s : State) : ((read16zp p s).2).a = s.a := by
  simp [read16zp]

@[simp] theorem read16zp_x (p : Byte) (s : State) : ((read16zp p s).2).x = s.x := by
  simp [read16zp]

@[simp] theorem read16zp_y (p : Byte) (s : State) : ((read16zp p s).2).y = s.y := by
  simp [read16zp]

@[simp] theorem read16zp_sp (p : Byte) (s : State) : ((read16zp p s).2).sp = s.sp := by
  simp [read16zp]

@[simp] theorem read16zp_pc (p : Byte) (s : State) : ((read16zp p s).2).pc = s.pc := by
  simp [read16zp]

@[simp] theorem read16zp_p (p : Byte) (s : State) : ((read16zp p s).2).p = s.p := by
  simp [read16zp]

@[simp] theorem read16zp_mem (p : Byte) (s : State) : ((read16zp p s).2).mem = s.mem := by
  simp [read16zp]

@[simp] theorem read16zp_nmiPending (p : Byte) (s : State) : ((read16zp p s).2).nmiPending = s.nmiPending := by
  simp [read16zp]

@[simp] theorem read16zp_iBefore (p : Byte) (s : State) : ((read16zp p s).2).iBefore = s.iBefore := by
  simp [read16zp]

@[simp] theorem read16zp_bus (p : Byte) (s : State) : ((read16zp p s).2).bus = s.bus := by
  simp [read16zp]

@[simp] theorem read16zp_env (p : Byte) (s : State) : ((read16zp p s).2).env = s.env := by
  simp [read16zp]

@[simp] theorem read16zp_envEnd (p : Byte) (s : State) : ((read16zp p s).2).envEnd = s.envEnd := by
  simp [read16zp]

/-! In-page pointer reads. -/

@[simp] theorem read16page_a (a : Addr) (s : State) : ((read16page a s).2).a = s.a := by
  simp [read16page]

@[simp] theorem read16page_x (a : Addr) (s : State) : ((read16page a s).2).x = s.x := by
  simp [read16page]

@[simp] theorem read16page_y (a : Addr) (s : State) : ((read16page a s).2).y = s.y := by
  simp [read16page]

@[simp] theorem read16page_sp (a : Addr) (s : State) : ((read16page a s).2).sp = s.sp := by
  simp [read16page]

@[simp] theorem read16page_pc (a : Addr) (s : State) : ((read16page a s).2).pc = s.pc := by
  simp [read16page]

@[simp] theorem read16page_p (a : Addr) (s : State) : ((read16page a s).2).p = s.p := by
  simp [read16page]

@[simp] theorem read16page_mem (a : Addr) (s : State) : ((read16page a s).2).mem = s.mem := by
  simp [read16page]

@[simp] theorem read16page_nmiPending (a : Addr) (s : State) : ((read16page a s).2).nmiPending = s.nmiPending := by
  simp [read16page]

@[simp] theorem read16page_iBefore (a : Addr) (s : State) : ((read16page a s).2).iBefore = s.iBefore := by
  simp [read16page]

@[simp] theorem read16page_bus (a : Addr) (s : State) : ((read16page a s).2).bus = s.bus := by
  simp [read16page]

@[simp] theorem read16page_env (a : Addr) (s : State) : ((read16page a s).2).env = s.env := by
  simp [read16page]

@[simp] theorem read16page_envEnd (a : Addr) (s : State) : ((read16page a s).2).envEnd = s.envEnd := by
  simp [read16page]

/-! Pushes. -/

@[simp] theorem push_a (v : Byte) (s : State) : (push v s).a = s.a := by
  simp [push]

@[simp] theorem push_x (v : Byte) (s : State) : (push v s).x = s.x := by
  simp [push]

@[simp] theorem push_y (v : Byte) (s : State) : (push v s).y = s.y := by
  simp [push]

@[simp] theorem push_pc (v : Byte) (s : State) : (push v s).pc = s.pc := by
  simp [push]

@[simp] theorem push_p (v : Byte) (s : State) : (push v s).p = s.p := by
  simp [push]

@[simp] theorem push_nmiPending (v : Byte) (s : State) : (push v s).nmiPending = s.nmiPending := by
  simp [push]

@[simp] theorem push_iBefore (v : Byte) (s : State) : (push v s).iBefore = s.iBefore := by
  simp [push]

@[simp] theorem push_bus (v : Byte) (s : State) : (push v s).bus = s.bus := by
  simp [push]

@[simp] theorem push_env (v : Byte) (s : State) : (push v s).env = s.env := by
  simp [push]

@[simp] theorem push_envEnd (v : Byte) (s : State) : (push v s).envEnd = s.envEnd := by
  simp [push]

@[simp] theorem push_draws (v : Byte) (s : State) : (push v s).draws = s.draws := by
  simp [push]

@[simp] theorem push_sp (v : Byte) (s : State) : (push v s).sp = s.sp - 1 := by
  simp [push]

/-! Pulls. -/

@[simp] theorem pull_a (s : State) : ((pull s).2).a = s.a := by
  simp [pull]

@[simp] theorem pull_x (s : State) : ((pull s).2).x = s.x := by
  simp [pull]

@[simp] theorem pull_y (s : State) : ((pull s).2).y = s.y := by
  simp [pull]

@[simp] theorem pull_pc (s : State) : ((pull s).2).pc = s.pc := by
  simp [pull]

@[simp] theorem pull_p (s : State) : ((pull s).2).p = s.p := by
  simp [pull]

@[simp] theorem pull_mem (s : State) : ((pull s).2).mem = s.mem := by
  simp [pull]

@[simp] theorem pull_nmiPending (s : State) : ((pull s).2).nmiPending = s.nmiPending := by
  simp [pull]

@[simp] theorem pull_iBefore (s : State) : ((pull s).2).iBefore = s.iBefore := by
  simp [pull]

@[simp] theorem pull_bus (s : State) : ((pull s).2).bus = s.bus := by
  simp [pull]

@[simp] theorem pull_env (s : State) : ((pull s).2).env = s.env := by
  simp [pull]

@[simp] theorem pull_envEnd (s : State) : ((pull s).2).envEnd = s.envEnd := by
  simp [pull]

@[simp] theorem pull_sp (s : State) : (pull s).2.sp = s.sp + 1 := by
  simp [pull]

/-! Pushes of an address. -/

@[simp] theorem pushAddr_a (t : Addr) (s : State) : (pushAddr t s).a = s.a := by
  simp [pushAddr]

@[simp] theorem pushAddr_x (t : Addr) (s : State) : (pushAddr t s).x = s.x := by
  simp [pushAddr]

@[simp] theorem pushAddr_y (t : Addr) (s : State) : (pushAddr t s).y = s.y := by
  simp [pushAddr]

@[simp] theorem pushAddr_pc (t : Addr) (s : State) : (pushAddr t s).pc = s.pc := by
  simp [pushAddr]

@[simp] theorem pushAddr_p (t : Addr) (s : State) : (pushAddr t s).p = s.p := by
  simp [pushAddr]

@[simp] theorem pushAddr_nmiPending (t : Addr) (s : State) : (pushAddr t s).nmiPending = s.nmiPending := by
  simp [pushAddr]

@[simp] theorem pushAddr_iBefore (t : Addr) (s : State) : (pushAddr t s).iBefore = s.iBefore := by
  simp [pushAddr]

@[simp] theorem pushAddr_bus (t : Addr) (s : State) : (pushAddr t s).bus = s.bus := by
  simp [pushAddr]

@[simp] theorem pushAddr_env (t : Addr) (s : State) : (pushAddr t s).env = s.env := by
  simp [pushAddr]

@[simp] theorem pushAddr_envEnd (t : Addr) (s : State) : (pushAddr t s).envEnd = s.envEnd := by
  simp [pushAddr]

@[simp] theorem pushAddr_draws (t : Addr) (s : State) : (pushAddr t s).draws = s.draws := by
  simp [pushAddr]

@[simp] theorem pushAddr_sp (t : Addr) (s : State) : (pushAddr t s).sp = s.sp - 1 - 1 := by
  simp [pushAddr]

/-! Pulls of an address. -/

@[simp] theorem pullAddr_a (s : State) : ((pullAddr s).2).a = s.a := by
  simp [pullAddr]

@[simp] theorem pullAddr_x (s : State) : ((pullAddr s).2).x = s.x := by
  simp [pullAddr]

@[simp] theorem pullAddr_y (s : State) : ((pullAddr s).2).y = s.y := by
  simp [pullAddr]

@[simp] theorem pullAddr_pc (s : State) : ((pullAddr s).2).pc = s.pc := by
  simp [pullAddr]

@[simp] theorem pullAddr_p (s : State) : ((pullAddr s).2).p = s.p := by
  simp [pullAddr]

@[simp] theorem pullAddr_mem (s : State) : ((pullAddr s).2).mem = s.mem := by
  simp [pullAddr]

@[simp] theorem pullAddr_nmiPending (s : State) : ((pullAddr s).2).nmiPending = s.nmiPending := by
  simp [pullAddr]

@[simp] theorem pullAddr_iBefore (s : State) : ((pullAddr s).2).iBefore = s.iBefore := by
  simp [pullAddr]

@[simp] theorem pullAddr_bus (s : State) : ((pullAddr s).2).bus = s.bus := by
  simp [pullAddr]

@[simp] theorem pullAddr_env (s : State) : ((pullAddr s).2).env = s.env := by
  simp [pullAddr]

@[simp] theorem pullAddr_envEnd (s : State) : ((pullAddr s).2).envEnd = s.envEnd := by
  simp [pullAddr]

@[simp] theorem pullAddr_sp (s : State) : (pullAddr s).2.sp = s.sp + 1 + 1 := by
  simp [pullAddr]

/-! Effective addresses. -/

@[simp] theorem effAddr_a (m : MemMode) (s : State) : ((effAddr m s).2).a = s.a := by
  cases m <;> simp [effAddr]

@[simp] theorem effAddr_x (m : MemMode) (s : State) : ((effAddr m s).2).x = s.x := by
  cases m <;> simp [effAddr]

@[simp] theorem effAddr_y (m : MemMode) (s : State) : ((effAddr m s).2).y = s.y := by
  cases m <;> simp [effAddr]

@[simp] theorem effAddr_sp (m : MemMode) (s : State) : ((effAddr m s).2).sp = s.sp := by
  cases m <;> simp [effAddr]

@[simp] theorem effAddr_pc (m : MemMode) (s : State) : ((effAddr m s).2).pc = s.pc := by
  cases m <;> simp [effAddr]

@[simp] theorem effAddr_p (m : MemMode) (s : State) : ((effAddr m s).2).p = s.p := by
  cases m <;> simp [effAddr]

@[simp] theorem effAddr_mem (m : MemMode) (s : State) : ((effAddr m s).2).mem = s.mem := by
  cases m <;> simp [effAddr]

@[simp] theorem effAddr_nmiPending (m : MemMode) (s : State) : ((effAddr m s).2).nmiPending = s.nmiPending := by
  cases m <;> simp [effAddr]

@[simp] theorem effAddr_iBefore (m : MemMode) (s : State) : ((effAddr m s).2).iBefore = s.iBefore := by
  cases m <;> simp [effAddr]

@[simp] theorem effAddr_bus (m : MemMode) (s : State) : ((effAddr m s).2).bus = s.bus := by
  cases m <;> simp [effAddr]

@[simp] theorem effAddr_env (m : MemMode) (s : State) : ((effAddr m s).2).env = s.env := by
  cases m <;> simp [effAddr]

@[simp] theorem effAddr_envEnd (m : MemMode) (s : State) : ((effAddr m s).2).envEnd = s.envEnd := by
  cases m <;> simp [effAddr]

/-! Operand reads. -/

@[simp] theorem readSource_a (src : Source) (s : State) : ((readSource src s).2).a = s.a := by
  cases src <;> simp [readSource]

@[simp] theorem readSource_x (src : Source) (s : State) : ((readSource src s).2).x = s.x := by
  cases src <;> simp [readSource]

@[simp] theorem readSource_y (src : Source) (s : State) : ((readSource src s).2).y = s.y := by
  cases src <;> simp [readSource]

@[simp] theorem readSource_sp (src : Source) (s : State) : ((readSource src s).2).sp = s.sp := by
  cases src <;> simp [readSource]

@[simp] theorem readSource_pc (src : Source) (s : State) : ((readSource src s).2).pc = s.pc := by
  cases src <;> simp [readSource]

@[simp] theorem readSource_p (src : Source) (s : State) : ((readSource src s).2).p = s.p := by
  cases src <;> simp [readSource]

@[simp] theorem readSource_mem (src : Source) (s : State) : ((readSource src s).2).mem = s.mem := by
  cases src <;> simp [readSource]

@[simp] theorem readSource_nmiPending (src : Source) (s : State) : ((readSource src s).2).nmiPending = s.nmiPending := by
  cases src <;> simp [readSource]

@[simp] theorem readSource_iBefore (src : Source) (s : State) : ((readSource src s).2).iBefore = s.iBefore := by
  cases src <;> simp [readSource]

@[simp] theorem readSource_bus (src : Source) (s : State) : ((readSource src s).2).bus = s.bus := by
  cases src <;> simp [readSource]

@[simp] theorem readSource_env (src : Source) (s : State) : ((readSource src s).2).env = s.env := by
  cases src <;> simp [readSource]

@[simp] theorem readSource_envEnd (src : Source) (s : State) : ((readSource src s).2).envEnd = s.envEnd := by
  cases src <;> simp [readSource]

/-! The advance of pc. -/

@[simp] theorem advance_a (len : Nat) (s : State) : (s.advance len).a = s.a := by
  simp [State.advance]

@[simp] theorem advance_x (len : Nat) (s : State) : (s.advance len).x = s.x := by
  simp [State.advance]

@[simp] theorem advance_y (len : Nat) (s : State) : (s.advance len).y = s.y := by
  simp [State.advance]

@[simp] theorem advance_sp (len : Nat) (s : State) : (s.advance len).sp = s.sp := by
  simp [State.advance]

@[simp] theorem advance_p (len : Nat) (s : State) : (s.advance len).p = s.p := by
  simp [State.advance]

@[simp] theorem advance_mem (len : Nat) (s : State) : (s.advance len).mem = s.mem := by
  simp [State.advance]

@[simp] theorem advance_nmiPending (len : Nat) (s : State) : (s.advance len).nmiPending = s.nmiPending := by
  simp [State.advance]

@[simp] theorem advance_iBefore (len : Nat) (s : State) : (s.advance len).iBefore = s.iBefore := by
  simp [State.advance]

@[simp] theorem advance_bus (len : Nat) (s : State) : (s.advance len).bus = s.bus := by
  simp [State.advance]

@[simp] theorem advance_env (len : Nat) (s : State) : (s.advance len).env = s.env := by
  simp [State.advance]

@[simp] theorem advance_envEnd (len : Nat) (s : State) : (s.advance len).envEnd = s.envEnd := by
  simp [State.advance]

@[simp] theorem advance_ioTrace (len : Nat) (s : State) : (s.advance len).ioTrace = s.ioTrace := by
  simp [State.advance]

@[simp] theorem advance_draws (len : Nat) (s : State) : (s.advance len).draws = s.draws := by
  simp [State.advance]

@[simp] theorem advance_pc (len : Nat) (s : State) : (s.advance len).pc = s.pc + BitVec.ofNat 16 len := by
  simp [State.advance]

/-! The canonical form of storage. -/

theorem memWrite_wf (a : Addr) (v : Byte) (s : State) (h : s.mem.wf = true) : (memWrite a v s).mem.wf = true := by
  rcases memWrite_cases a v s with ⟨_, e⟩ | ⟨_, e⟩ | ⟨_, e⟩
  · simpa [e] using Memory.write_wf s.mem a.toNat v a.isLt h
  · simpa [e] using h
  · simpa [e] using h

theorem push_wf (v : Byte) (s : State) (h : s.mem.wf = true) : (push v s).mem.wf = true := by
  simpa [push] using memWrite_wf (stackAddr s.sp) v s h

theorem pushAddr_wf (t : Addr) (s : State) (h : s.mem.wf = true) : (pushAddr t s).mem.wf = true :=
  push_wf _ _ (push_wf _ _ h)

/-- What one write leaves at every address. -/
theorem peek_memWrite (a : Addr) (v : Byte) (s : State) (b : Addr) :
    (memWrite a v s).peek b = if b = a ∧ s.kindAt a = .ram then v else s.peek b := by
  rcases memWrite_cases a v s with ⟨k, e⟩ | ⟨k, e⟩ | ⟨k, e⟩
  · rw [e]
    by_cases hb : b = a
    · subst hb; simp [State.peek, k]
    · have : b.toNat ≠ a.toNat := fun h => hb (BitVec.eq_of_toNat_eq h)
      simp [State.peek, hb, Memory.read_write_other _ _ _ _ this]
  · simp [e, k, State.peek]
  · rcases k with k | k <;> simp [e, k]

/-- What one push leaves at every address. -/
theorem peek_push (v : Byte) (s : State) (b : Addr) :
    (push v s).peek b = if b = stackAddr s.sp ∧ s.kindAt (stackAddr s.sp) = .ram then v else s.peek b := by
  simpa [push, State.peek] using peek_memWrite (stackAddr s.sp) v s b

end Sys2Proof.Machine
end

