-- ==== Sys2Proof/Laws/Step.lean ====
section
/-! SUPPORT. What an entry, a return, a boundary and a step can do, said once. -/

namespace Sys2Proof.Machine

/-! Taking an exception and returning from one. -/

@[simp] theorem enterInterrupt_a (ret : Addr) (brk : Bool) (vector : Addr) (s : State) : (enterInterrupt ret brk vector s).a = s.a := by
  simp [enterInterrupt]

@[simp] theorem enterInterrupt_x (ret : Addr) (brk : Bool) (vector : Addr) (s : State) : (enterInterrupt ret brk vector s).x = s.x := by
  simp [enterInterrupt]

@[simp] theorem enterInterrupt_y (ret : Addr) (brk : Bool) (vector : Addr) (s : State) : (enterInterrupt ret brk vector s).y = s.y := by
  simp [enterInterrupt]

@[simp] theorem enterInterrupt_nmiPending (ret : Addr) (brk : Bool) (vector : Addr) (s : State) : (enterInterrupt ret brk vector s).nmiPending = s.nmiPending := by
  simp [enterInterrupt]

@[simp] theorem enterInterrupt_iBefore (ret : Addr) (brk : Bool) (vector : Addr) (s : State) : (enterInterrupt ret brk vector s).iBefore = s.iBefore := by
  simp [enterInterrupt]

@[simp] theorem enterInterrupt_bus (ret : Addr) (brk : Bool) (vector : Addr) (s : State) : (enterInterrupt ret brk vector s).bus = s.bus := by
  simp [enterInterrupt]

@[simp] theorem enterInterrupt_env (ret : Addr) (brk : Bool) (vector : Addr) (s : State) : (enterInterrupt ret brk vector s).env = s.env := by
  simp [enterInterrupt]

@[simp] theorem enterInterrupt_envEnd (ret : Addr) (brk : Bool) (vector : Addr) (s : State) : (enterInterrupt ret brk vector s).envEnd = s.envEnd := by
  simp [enterInterrupt]

@[simp] theorem enterInterrupt_p (ret : Addr) (brk : Bool) (vector : Addr) (s : State) :
    (enterInterrupt ret brk vector s).p = { s.p with i := true } := by
  simp [enterInterrupt]

@[simp] theorem enterInterrupt_sp (ret : Addr) (brk : Bool) (vector : Addr) (s : State) :
    (enterInterrupt ret brk vector s).sp = s.sp - 1 - 1 - 1 := by
  simp [enterInterrupt]

@[simp] theorem enterInterrupt_mem (ret : Addr) (brk : Bool) (vector : Addr) (s : State) :
    (enterInterrupt ret brk vector s).mem = (push (s.p.pack brk) (pushAddr ret s)).mem := by
  simp [enterInterrupt]

@[simp] theorem returnFromInterrupt_a (s : State) : (returnFromInterrupt s).a = s.a := by
  simp [returnFromInterrupt]

@[simp] theorem returnFromInterrupt_x (s : State) : (returnFromInterrupt s).x = s.x := by
  simp [returnFromInterrupt]

@[simp] theorem returnFromInterrupt_y (s : State) : (returnFromInterrupt s).y = s.y := by
  simp [returnFromInterrupt]

@[simp] theorem returnFromInterrupt_mem (s : State) : (returnFromInterrupt s).mem = s.mem := by
  simp [returnFromInterrupt]

@[simp] theorem returnFromInterrupt_nmiPending (s : State) : (returnFromInterrupt s).nmiPending = s.nmiPending := by
  simp [returnFromInterrupt]

@[simp] theorem returnFromInterrupt_iBefore (s : State) : (returnFromInterrupt s).iBefore = s.iBefore := by
  simp [returnFromInterrupt]

@[simp] theorem returnFromInterrupt_bus (s : State) : (returnFromInterrupt s).bus = s.bus := by
  simp [returnFromInterrupt]

@[simp] theorem returnFromInterrupt_env (s : State) : (returnFromInterrupt s).env = s.env := by
  simp [returnFromInterrupt]

@[simp] theorem returnFromInterrupt_envEnd (s : State) : (returnFromInterrupt s).envEnd = s.envEnd := by
  simp [returnFromInterrupt]

@[simp] theorem returnFromInterrupt_p (s : State) : (returnFromInterrupt s).p = Flags.unpack (pull s).1 := by
  simp [returnFromInterrupt]

@[simp] theorem returnFromInterrupt_sp (s : State) : (returnFromInterrupt s).sp = s.sp + 1 + 1 + 1 := by
  simp [returnFromInterrupt]

/-! The reset entry. -/

@[simp] theorem resetEntry_mem (s : State) : (resetEntry s).mem = s.mem := by
  simp [resetEntry, drawRegisters, drawByte, drawBit]

@[simp] theorem resetEntry_iBefore (s : State) : (resetEntry s).iBefore = s.iBefore := by
  simp [resetEntry, drawRegisters, drawByte, drawBit]

@[simp] theorem resetEntry_bus (s : State) : (resetEntry s).bus = s.bus := by
  simp [resetEntry, drawRegisters, drawByte, drawBit]

@[simp] theorem resetEntry_env (s : State) : (resetEntry s).env = s.env := by
  simp [resetEntry, drawRegisters, drawByte, drawBit]

@[simp] theorem resetEntry_envEnd (s : State) : (resetEntry s).envEnd = s.envEnd := by
  simp [resetEntry, drawRegisters, drawByte, drawBit]

@[simp] theorem resetEntry_nmiPending (s : State) : (resetEntry s).nmiPending = false := by
  simp [resetEntry, drawRegisters, drawByte, drawBit]

@[simp] theorem resetEntry_i (s : State) : (resetEntry s).p.i = true := by
  simp [resetEntry, drawRegisters]

/-! The boundary. -/

/-- What taking the inputs can do, whole (60_exceptions.md R317). -/
theorem takeInputs_cases (s : State) :
    (∃ e rest, s.env = e :: rest ∧ takeInputs s = (e, s.setEnv rest)) ∨
    (s.env = [] ∧ s.envEnd = .quiet ∧ takeInputs s = (Inputs.quiet, s)) ∨
    (s.env = [] ∧ s.envEnd = .free ∧ ∃ e, takeInputs s = (e, s.setDraws (s.draws + 3))) := by
  cases h : s.env with
  | cons e rest => exact .inl ⟨e, rest, rfl, by simp [takeInputs, h]⟩
  | nil =>
    cases k : s.envEnd with
    | quiet => exact .inr (.inl ⟨rfl, rfl, by simp [takeInputs, h, k]⟩)
    | free => exact .inr (.inr ⟨rfl, rfl, (drawInputs s).1, by simp only [takeInputs, h, k]; rfl⟩)

@[simp] theorem takeInputs_a (s : State) : (takeInputs s).2.a = s.a := by
  rcases takeInputs_cases s with ⟨_, _, _, e⟩ | ⟨_, _, e⟩ | ⟨_, _, _, e⟩ <;> simp [e]

@[simp] theorem takeInputs_x (s : State) : (takeInputs s).2.x = s.x := by
  rcases takeInputs_cases s with ⟨_, _, _, e⟩ | ⟨_, _, e⟩ | ⟨_, _, _, e⟩ <;> simp [e]

@[simp] theorem takeInputs_y (s : State) : (takeInputs s).2.y = s.y := by
  rcases takeInputs_cases s with ⟨_, _, _, e⟩ | ⟨_, _, e⟩ | ⟨_, _, _, e⟩ <;> simp [e]

@[simp] theorem takeInputs_sp (s : State) : (takeInputs s).2.sp = s.sp := by
  rcases takeInputs_cases s with ⟨_, _, _, e⟩ | ⟨_, _, e⟩ | ⟨_, _, _, e⟩ <;> simp [e]

@[simp] theorem takeInputs_pc (s : State) : (takeInputs s).2.pc = s.pc := by
  rcases takeInputs_cases s with ⟨_, _, _, e⟩ | ⟨_, _, e⟩ | ⟨_, _, _, e⟩ <;> simp [e]

@[simp] theorem takeInputs_p (s : State) : (takeInputs s).2.p = s.p := by
  rcases takeInputs_cases s with ⟨_, _, _, e⟩ | ⟨_, _, e⟩ | ⟨_, _, _, e⟩ <;> simp [e]

@[simp] theorem takeInputs_mem (s : State) : (takeInputs s).2.mem = s.mem := by
  rcases takeInputs_cases s with ⟨_, _, _, e⟩ | ⟨_, _, e⟩ | ⟨_, _, _, e⟩ <;> simp [e]

@[simp] theorem takeInputs_nmiPending (s : State) : (takeInputs s).2.nmiPending = s.nmiPending := by
  rcases takeInputs_cases s with ⟨_, _, _, e⟩ | ⟨_, _, e⟩ | ⟨_, _, _, e⟩ <;> simp [e]

@[simp] theorem takeInputs_iBefore (s : State) : (takeInputs s).2.iBefore = s.iBefore := by
  rcases takeInputs_cases s with ⟨_, _, _, e⟩ | ⟨_, _, e⟩ | ⟨_, _, _, e⟩ <;> simp [e]

@[simp] theorem takeInputs_bus (s : State) : (takeInputs s).2.bus = s.bus := by
  rcases takeInputs_cases s with ⟨_, _, _, e⟩ | ⟨_, _, e⟩ | ⟨_, _, _, e⟩ <;> simp [e]

@[simp] theorem takeInputs_envEnd (s : State) : (takeInputs s).2.envEnd = s.envEnd := by
  rcases takeInputs_cases s with ⟨_, _, _, e⟩ | ⟨_, _, e⟩ | ⟨_, _, _, e⟩ <;> simp [e]

@[simp] theorem takeInputs_ioTrace (s : State) : (takeInputs s).2.ioTrace = s.ioTrace := by
  rcases takeInputs_cases s with ⟨_, _, _, e⟩ | ⟨_, _, e⟩ | ⟨_, _, _, e⟩ <;> simp [e]

@[simp] theorem takeInputs_env (s : State) : (takeInputs s).2.env = s.env.tail := by
  rcases takeInputs_cases s with ⟨_, _, h, e⟩ | ⟨h, _, e⟩ | ⟨h, _, _, e⟩ <;> simp [e, h]

@[simp] theorem latchInputs_a (s : State) : (latchInputs s).a = s.a := by
  simp [latchInputs]

@[simp] theorem latchInputs_x (s : State) : (latchInputs s).x = s.x := by
  simp [latchInputs]

@[simp] theorem latchInputs_y (s : State) : (latchInputs s).y = s.y := by
  simp [latchInputs]

@[simp] theorem latchInputs_sp (s : State) : (latchInputs s).sp = s.sp := by
  simp [latchInputs]

@[simp] theorem latchInputs_pc (s : State) : (latchInputs s).pc = s.pc := by
  simp [latchInputs]

@[simp] theorem latchInputs_p (s : State) : (latchInputs s).p = s.p := by
  simp [latchInputs]

@[simp] theorem latchInputs_mem (s : State) : (latchInputs s).mem = s.mem := by
  simp [latchInputs]

@[simp] theorem latchInputs_iBefore (s : State) : (latchInputs s).iBefore = s.iBefore := by
  simp [latchInputs]

@[simp] theorem latchInputs_bus (s : State) : (latchInputs s).bus = s.bus := by
  simp [latchInputs]

@[simp] theorem latchInputs_envEnd (s : State) : (latchInputs s).envEnd = s.envEnd := by
  simp [latchInputs]

@[simp] theorem latchInputs_ioTrace (s : State) : (latchInputs s).ioTrace = s.ioTrace := by
  simp [latchInputs]

@[simp] theorem latchInputs_nmiPending (s : State) : (latchInputs s).nmiPending = (s.nmiPending || s.inputs.nmiEdge) := by
  simp [latchInputs]

@[simp] theorem latchInputs_env (s : State) : (latchInputs s).env = s.env.tail := by
  simp [latchInputs]

@[simp] theorem iPoll_a (s : State) : (iPoll s).2.a = s.a := by
  unfold iPoll drawBit
  split <;> simp

@[simp] theorem iPoll_x (s : State) : (iPoll s).2.x = s.x := by
  unfold iPoll drawBit
  split <;> simp

@[simp] theorem iPoll_y (s : State) : (iPoll s).2.y = s.y := by
  unfold iPoll drawBit
  split <;> simp

@[simp] theorem iPoll_sp (s : State) : (iPoll s).2.sp = s.sp := by
  unfold iPoll drawBit
  split <;> simp

@[simp] theorem iPoll_pc (s : State) : (iPoll s).2.pc = s.pc := by
  unfold iPoll drawBit
  split <;> simp

@[simp] theorem iPoll_p (s : State) : (iPoll s).2.p = s.p := by
  unfold iPoll drawBit
  split <;> simp

@[simp] theorem iPoll_mem (s : State) : (iPoll s).2.mem = s.mem := by
  unfold iPoll drawBit
  split <;> simp

@[simp] theorem iPoll_nmiPending (s : State) : (iPoll s).2.nmiPending = s.nmiPending := by
  unfold iPoll drawBit
  split <;> simp

@[simp] theorem iPoll_iBefore (s : State) : (iPoll s).2.iBefore = s.iBefore := by
  unfold iPoll drawBit
  split <;> simp

@[simp] theorem iPoll_bus (s : State) : (iPoll s).2.bus = s.bus := by
  unfold iPoll drawBit
  split <;> simp

@[simp] theorem iPoll_env (s : State) : (iPoll s).2.env = s.env := by
  unfold iPoll drawBit
  split <;> simp

@[simp] theorem iPoll_envEnd (s : State) : (iPoll s).2.envEnd = s.envEnd := by
  unfold iPoll drawBit
  split <;> simp

@[simp] theorem iPoll_ioTrace (s : State) : (iPoll s).2.ioTrace = s.ioTrace := by
  unfold iPoll drawBit
  split <;> simp

@[simp] theorem decideEvent_a (e : Inputs) (s : State) : (decideEvent e s).2.a = s.a := by
  unfold decideEvent
  split_ifs <;> simp

@[simp] theorem decideEvent_x (e : Inputs) (s : State) : (decideEvent e s).2.x = s.x := by
  unfold decideEvent
  split_ifs <;> simp

@[simp] theorem decideEvent_y (e : Inputs) (s : State) : (decideEvent e s).2.y = s.y := by
  unfold decideEvent
  split_ifs <;> simp

@[simp] theorem decideEvent_sp (e : Inputs) (s : State) : (decideEvent e s).2.sp = s.sp := by
  unfold decideEvent
  split_ifs <;> simp

@[simp] theorem decideEvent_pc (e : Inputs) (s : State) : (decideEvent e s).2.pc = s.pc := by
  unfold decideEvent
  split_ifs <;> simp

@[simp] theorem decideEvent_p (e : Inputs) (s : State) : (decideEvent e s).2.p = s.p := by
  unfold decideEvent
  split_ifs <;> simp

@[simp] theorem decideEvent_mem (e : Inputs) (s : State) : (decideEvent e s).2.mem = s.mem := by
  unfold decideEvent
  split_ifs <;> simp

@[simp] theorem decideEvent_nmiPending (e : Inputs) (s : State) : (decideEvent e s).2.nmiPending = s.nmiPending := by
  unfold decideEvent
  split_ifs <;> simp

@[simp] theorem decideEvent_iBefore (e : Inputs) (s : State) : (decideEvent e s).2.iBefore = s.iBefore := by
  unfold decideEvent
  split_ifs <;> simp

@[simp] theorem decideEvent_bus (e : Inputs) (s : State) : (decideEvent e s).2.bus = s.bus := by
  unfold decideEvent
  split_ifs <;> simp

@[simp] theorem decideEvent_env (e : Inputs) (s : State) : (decideEvent e s).2.env = s.env := by
  unfold decideEvent
  split_ifs <;> simp

@[simp] theorem decideEvent_envEnd (e : Inputs) (s : State) : (decideEvent e s).2.envEnd = s.envEnd := by
  unfold decideEvent
  split_ifs <;> simp

@[simp] theorem decideEvent_ioTrace (e : Inputs) (s : State) : (decideEvent e s).2.ioTrace = s.ioTrace := by
  unfold decideEvent
  split_ifs <;> simp

@[simp] theorem boundary_a (s : State) : (boundary s).2.a = s.a := by
  simp [boundary]

@[simp] theorem boundary_x (s : State) : (boundary s).2.x = s.x := by
  simp [boundary]

@[simp] theorem boundary_y (s : State) : (boundary s).2.y = s.y := by
  simp [boundary]

@[simp] theorem boundary_sp (s : State) : (boundary s).2.sp = s.sp := by
  simp [boundary]

@[simp] theorem boundary_pc (s : State) : (boundary s).2.pc = s.pc := by
  simp [boundary]

@[simp] theorem boundary_p (s : State) : (boundary s).2.p = s.p := by
  simp [boundary]

@[simp] theorem boundary_mem (s : State) : (boundary s).2.mem = s.mem := by
  simp [boundary]

@[simp] theorem boundary_bus (s : State) : (boundary s).2.bus = s.bus := by
  simp [boundary]

@[simp] theorem boundary_envEnd (s : State) : (boundary s).2.envEnd = s.envEnd := by
  simp [boundary]

@[simp] theorem boundary_ioTrace (s : State) : (boundary s).2.ioTrace = s.ioTrace := by
  simp [boundary]

@[simp] theorem boundary_iBefore (s : State) : (boundary s).2.iBefore = none := by
  simp [boundary]

@[simp] theorem boundary_env (s : State) : (boundary s).2.env = s.env.tail := by
  simp [boundary]

/-- The decision of a boundary from its inputs and the latch (60_exceptions.md R304): the event is what `decideEvent` makes of them. -/
theorem boundary_event (s : State) :
    (boundary s).1 =
      if s.inputs.resetLine then .reset
      else if s.nmiPending || s.inputs.nmiEdge then .nmi
      else if s.inputs.irqLine then (if (iPoll (latchInputs s)).1 then .instruction else .irq)
      else .instruction := by
  unfold boundary decideEvent
  rw [latchInputs_nmiPending]
  split_ifs <;> rfl

/-- A boundary that takes no reset and no NMI leaves no request latched. -/
theorem boundary_nmiPending (s : State) (h : (boundary s).1 = .instruction ∨ (boundary s).1 = .irq) :
    (boundary s).2.nmiPending = false := by
  have key : (boundary s).2.nmiPending = (latchInputs s).nmiPending := by simp [boundary]
  cases hn : (latchInputs s).nmiPending with
  | false => rw [key, hn]
  | true =>
    have : (boundary s).1 = .reset ∨ (boundary s).1 = .nmi := by
      simp only [boundary, decideEvent, hn]
      split_ifs <;> simp
    rcases h with h | h <;> rcases this with e | e <;> rw [h] at e <;> cases e

/-- A fetch leaves everything but the draw counter and the `io` trace. -/
theorem fetch_frame (s : State) (i : Instr) (s' : State) (h : fetch s = .ok (i, s')) :
    s' = { s with ioTrace := s'.ioTrace, draws := s'.draws } := by
  simp only [fetch] at h
  split at h <;> simp only [Except.ok.injEq, Prod.mk.injEq, reduceCtorEq] at h
  all_goals
    obtain ⟨-, rfl⟩ := h
    apply State.ext <;> simp

/-- Everything a step that goes on can have been (60_exceptions.md R317). -/
theorem step_cases (s t : State) (h : step s = .next t) :
    ((boundary s).1 = .reset ∧ t = resetEntry (boundary s).2) ∨
    ((boundary s).1 = .nmi ∧ t = nmiEntry (boundary s).2) ∨
    ((boundary s).1 = .irq ∧ t = irqEntry (boundary s).2) ∨
    ((boundary s).1 = .instruction ∧ ∃ i s', fetch (boundary s).2 = .ok (i, s') ∧ exec i s' = .next t) := by
  unfold step runStep at h
  split at h
  · next b e => exact .inl ⟨by rw [e], by rw [e]; simpa using h.symm⟩
  · next b e => exact .inr (.inl ⟨by rw [e], by rw [e]; simpa using h.symm⟩)
  · next b e => exact .inr (.inr (.inl ⟨by rw [e], by rw [e]; simpa using h.symm⟩))
  · next b e =>
    refine .inr (.inr (.inr ⟨by rw [e], ?_⟩))
    rw [e]
    unfold executeInstruction at h
    split at h
    · exact absurd h (by simp)
    · next i s' f => exact ⟨i, s', f, h⟩

end Sys2Proof.Machine
end

