-- ==== Sys2Proof/Laws/IoTrace.lean ====
section
/-! SUPPORT. What the shared operations do to the `io` trace, whole, and that they leave it alone where no address is `io` (20_memory.md R51,
R60); how the answer of an instruction meets `Answers`. -/

namespace Sys2Proof.Safety

open Sys2Proof.Machine

/-- The map alone decides whether an address is `io`. -/
theorem IoFree.congr {s t : State} (h : IoFree s) (e : t.bus = s.bus) : IoFree t := fun a => by
  rw [State.kindAt_congr s t e]
  exact h a

/-- What a write adds to the trace. -/
theorem memWrite_ioTrace (a : Addr) (v : Byte) (s : State) : (memWrite a v s).ioTrace = ioWritten s [(a, v)] ++ s.ioTrace := by
  rcases memWrite_cases a v s with ⟨k, e⟩ | ⟨k, e⟩ | ⟨k | k, e⟩ <;> simp [e, k, ioWritten]

/-- What a push adds to the trace. -/
theorem push_ioTrace (v : Byte) (s : State) : (push v s).ioTrace = ioWritten s [(stackAddr s.sp, v)] ++ s.ioTrace := by
  simp [push, memWrite_ioTrace]

theorem memRead_ioTrace_free (a : Addr) (s : State) (h : IoFree s) : (memRead a s).2.ioTrace = s.ioTrace := by
  rcases memRead_cases a s with ⟨_, e⟩ | ⟨k, _⟩ | ⟨_, e⟩
  · rw [e]
  · exact absurd k (h a)
  · simp [e]

theorem memWrite_ioTrace_free (a : Addr) (v : Byte) (s : State) (h : IoFree s) : (memWrite a v s).ioTrace = s.ioTrace := by
  simp [memWrite_ioTrace, ioWritten, h a]

theorem read16_ioTrace_free (a : Addr) (s : State) (h : IoFree s) : (read16 a s).2.ioTrace = s.ioTrace := by
  simp only [read16]
  rw [memRead_ioTrace_free _ _ (h.congr (by simp)), memRead_ioTrace_free _ _ h]

theorem read16zp_ioTrace_free (p : Byte) (s : State) (h : IoFree s) : (read16zp p s).2.ioTrace = s.ioTrace := by
  simp only [read16zp]
  rw [memRead_ioTrace_free _ _ (h.congr (by simp)), memRead_ioTrace_free _ _ h]

theorem effAddr_ioTrace_free (m : MemMode) (s : State) (h : IoFree s) : (effAddr m s).2.ioTrace = s.ioTrace := by
  cases m <;> simp [effAddr, read16zp_ioTrace_free _ _ h]

theorem readSource_ioTrace_free (src : Source) (s : State) (h : IoFree s) : (readSource src s).2.ioTrace = s.ioTrace := by
  cases src with
  | imm n => rfl
  | mem m =>
    simp only [readSource]
    rw [memRead_ioTrace_free _ _ (h.congr (by simp)), effAddr_ioTrace_free _ _ h]

theorem push_ioTrace_free (v : Byte) (s : State) (h : IoFree s) : (push v s).ioTrace = s.ioTrace := by
  simp [push, memWrite_ioTrace_free _ _ _ h]

theorem pushAddr_ioTrace_free (t : Addr) (s : State) (h : IoFree s) : (pushAddr t s).ioTrace = s.ioTrace := by
  simp only [pushAddr]
  rw [push_ioTrace_free _ _ (h.congr (by simp)), push_ioTrace_free _ _ h]

theorem pull_ioTrace_free (s : State) (h : IoFree s) : (pull s).2.ioTrace = s.ioTrace := by
  simp only [pull]
  rw [memRead_ioTrace_free _ _ (h.congr (by simp))]
  rfl

theorem pullAddr_ioTrace_free (s : State) (h : IoFree s) : (pullAddr s).2.ioTrace = s.ioTrace := by
  simp only [pullAddr]
  rw [pull_ioTrace_free _ (h.congr (by simp)), pull_ioTrace_free _ h]

/-- An instruction that answers `t` answers `u` in the sense of `Answers`, if the two agree but for the trace and the trace is as R353 lets a
claim say. -/
theorem Answers.of_next {i : Instr} {s u t : State} (h : exec i s = .next t) (e : t = { u with ioTrace := t.ioTrace })
    (free : IoFree s → t.ioTrace = s.ioTrace) (claimed : ioAccessesClaimed i = true → t.ioTrace = u.ioTrace) : Answers i s u :=
  ⟨t, h, ⟨e, free⟩, claimed⟩

end Sys2Proof.Safety
end

