-- ==== Sys2Proof/Laws/PerInstr.lean ====
section
/-! SUPPORT. The shape of every instruction's encoding, one lemma per constructor: it is well formed, as long as its mode says, and begins
with its opcode byte. -/

namespace Sys2Proof.Laws

def EncodingShape.Statement (i : Instr) : Prop :=
  i.wf = true ∧ (encode i).length = i.length ∧ (encode i).head? = some i.opcode

theorem EncodingShape.ldaImm (n : Byte) : EncodingShape.Statement (.ldaImm n) := ⟨rfl, rfl, rfl⟩
theorem EncodingShape.ldaZp (n : Byte) : EncodingShape.Statement (.ldaZp n) := ⟨rfl, rfl, rfl⟩
theorem EncodingShape.ldaZpx (n : Byte) : EncodingShape.Statement (.ldaZpx n) := ⟨rfl, rfl, rfl⟩
theorem EncodingShape.ldaAbs (a : Addr) : EncodingShape.Statement (.ldaAbs a) := ⟨rfl, rfl, rfl⟩
theorem EncodingShape.ldaAbx (a : Addr) : EncodingShape.Statement (.ldaAbx a) := ⟨rfl, rfl, rfl⟩
theorem EncodingShape.ldaAby (a : Addr) : EncodingShape.Statement (.ldaAby a) := ⟨rfl, rfl, rfl⟩
theorem EncodingShape.ldaIzx (n : Byte) : EncodingShape.Statement (.ldaIzx n) := ⟨rfl, rfl, rfl⟩
theorem EncodingShape.ldaIzy (n : Byte) : EncodingShape.Statement (.ldaIzy n) := ⟨rfl, rfl, rfl⟩
theorem EncodingShape.ldxImm (n : Byte) : EncodingShape.Statement (.ldxImm n) := ⟨rfl, rfl, rfl⟩
theorem EncodingShape.ldxZp (n : Byte) : EncodingShape.Statement (.ldxZp n) := ⟨rfl, rfl, rfl⟩
theorem EncodingShape.ldxZpy (n : Byte) : EncodingShape.Statement (.ldxZpy n) := ⟨rfl, rfl, rfl⟩
theorem EncodingShape.ldxAbs (a : Addr) : EncodingShape.Statement (.ldxAbs a) := ⟨rfl, rfl, rfl⟩
theorem EncodingShape.ldxAby (a : Addr) : EncodingShape.Statement (.ldxAby a) := ⟨rfl, rfl, rfl⟩
theorem EncodingShape.ldyImm (n : Byte) : EncodingShape.Statement (.ldyImm n) := ⟨rfl, rfl, rfl⟩
theorem EncodingShape.ldyZp (n : Byte) : EncodingShape.Statement (.ldyZp n) := ⟨rfl, rfl, rfl⟩
theorem EncodingShape.ldyZpx (n : Byte) : EncodingShape.Statement (.ldyZpx n) := ⟨rfl, rfl, rfl⟩
theorem EncodingShape.ldyAbs (a : Addr) : EncodingShape.Statement (.ldyAbs a) := ⟨rfl, rfl, rfl⟩
theorem EncodingShape.ldyAbx (a : Addr) : EncodingShape.Statement (.ldyAbx a) := ⟨rfl, rfl, rfl⟩
theorem EncodingShape.staZp (n : Byte) : EncodingShape.Statement (.staZp n) := ⟨rfl, rfl, rfl⟩
theorem EncodingShape.staZpx (n : Byte) : EncodingShape.Statement (.staZpx n) := ⟨rfl, rfl, rfl⟩
theorem EncodingShape.staAbs (a : Addr) : EncodingShape.Statement (.staAbs a) := ⟨rfl, rfl, rfl⟩
theorem EncodingShape.staAbx (a : Addr) : EncodingShape.Statement (.staAbx a) := ⟨rfl, rfl, rfl⟩
theorem EncodingShape.staAby (a : Addr) : EncodingShape.Statement (.staAby a) := ⟨rfl, rfl, rfl⟩
theorem EncodingShape.staIzx (n : Byte) : EncodingShape.Statement (.staIzx n) := ⟨rfl, rfl, rfl⟩
theorem EncodingShape.staIzy (n : Byte) : EncodingShape.Statement (.staIzy n) := ⟨rfl, rfl, rfl⟩
theorem EncodingShape.stxZp (n : Byte) : EncodingShape.Statement (.stxZp n) := ⟨rfl, rfl, rfl⟩
theorem EncodingShape.stxZpy (n : Byte) : EncodingShape.Statement (.stxZpy n) := ⟨rfl, rfl, rfl⟩
theorem EncodingShape.stxAbs (a : Addr) : EncodingShape.Statement (.stxAbs a) := ⟨rfl, rfl, rfl⟩
theorem EncodingShape.styZp (n : Byte) : EncodingShape.Statement (.styZp n) := ⟨rfl, rfl, rfl⟩
theorem EncodingShape.styZpx (n : Byte) : EncodingShape.Statement (.styZpx n) := ⟨rfl, rfl, rfl⟩
theorem EncodingShape.styAbs (a : Addr) : EncodingShape.Statement (.styAbs a) := ⟨rfl, rfl, rfl⟩
theorem EncodingShape.cmpImm (n : Byte) : EncodingShape.Statement (.cmpImm n) := ⟨rfl, rfl, rfl⟩
theorem EncodingShape.cmpZp (n : Byte) : EncodingShape.Statement (.cmpZp n) := ⟨rfl, rfl, rfl⟩
theorem EncodingShape.cmpZpx (n : Byte) : EncodingShape.Statement (.cmpZpx n) := ⟨rfl, rfl, rfl⟩
theorem EncodingShape.cmpAbs (a : Addr) : EncodingShape.Statement (.cmpAbs a) := ⟨rfl, rfl, rfl⟩
theorem EncodingShape.cmpAbx (a : Addr) : EncodingShape.Statement (.cmpAbx a) := ⟨rfl, rfl, rfl⟩
theorem EncodingShape.cmpAby (a : Addr) : EncodingShape.Statement (.cmpAby a) := ⟨rfl, rfl, rfl⟩
theorem EncodingShape.cmpIzx (n : Byte) : EncodingShape.Statement (.cmpIzx n) := ⟨rfl, rfl, rfl⟩
theorem EncodingShape.cmpIzy (n : Byte) : EncodingShape.Statement (.cmpIzy n) := ⟨rfl, rfl, rfl⟩
theorem EncodingShape.cpxImm (n : Byte) : EncodingShape.Statement (.cpxImm n) := ⟨rfl, rfl, rfl⟩
theorem EncodingShape.cpxZp (n : Byte) : EncodingShape.Statement (.cpxZp n) := ⟨rfl, rfl, rfl⟩
theorem EncodingShape.cpxAbs (a : Addr) : EncodingShape.Statement (.cpxAbs a) := ⟨rfl, rfl, rfl⟩
theorem EncodingShape.cpyImm (n : Byte) : EncodingShape.Statement (.cpyImm n) := ⟨rfl, rfl, rfl⟩
theorem EncodingShape.cpyZp (n : Byte) : EncodingShape.Statement (.cpyZp n) := ⟨rfl, rfl, rfl⟩
theorem EncodingShape.cpyAbs (a : Addr) : EncodingShape.Statement (.cpyAbs a) := ⟨rfl, rfl, rfl⟩
theorem EncodingShape.bpl (d : Byte) : EncodingShape.Statement (.bpl d) := ⟨rfl, rfl, rfl⟩
theorem EncodingShape.bmi (d : Byte) : EncodingShape.Statement (.bmi d) := ⟨rfl, rfl, rfl⟩
theorem EncodingShape.bvc (d : Byte) : EncodingShape.Statement (.bvc d) := ⟨rfl, rfl, rfl⟩
theorem EncodingShape.bvs (d : Byte) : EncodingShape.Statement (.bvs d) := ⟨rfl, rfl, rfl⟩
theorem EncodingShape.bcc (d : Byte) : EncodingShape.Statement (.bcc d) := ⟨rfl, rfl, rfl⟩
theorem EncodingShape.bcs (d : Byte) : EncodingShape.Statement (.bcs d) := ⟨rfl, rfl, rfl⟩
theorem EncodingShape.bne (d : Byte) : EncodingShape.Statement (.bne d) := ⟨rfl, rfl, rfl⟩
theorem EncodingShape.beq (d : Byte) : EncodingShape.Statement (.beq d) := ⟨rfl, rfl, rfl⟩
theorem EncodingShape.aslAcc : EncodingShape.Statement .aslAcc := ⟨rfl, rfl, rfl⟩
theorem EncodingShape.aslZp (n : Byte) : EncodingShape.Statement (.aslZp n) := ⟨rfl, rfl, rfl⟩
theorem EncodingShape.aslZpx (n : Byte) : EncodingShape.Statement (.aslZpx n) := ⟨rfl, rfl, rfl⟩
theorem EncodingShape.aslAbs (a : Addr) : EncodingShape.Statement (.aslAbs a) := ⟨rfl, rfl, rfl⟩
theorem EncodingShape.aslAbx (a : Addr) : EncodingShape.Statement (.aslAbx a) := ⟨rfl, rfl, rfl⟩
theorem EncodingShape.lsrAcc : EncodingShape.Statement .lsrAcc := ⟨rfl, rfl, rfl⟩
theorem EncodingShape.lsrZp (n : Byte) : EncodingShape.Statement (.lsrZp n) := ⟨rfl, rfl, rfl⟩
theorem EncodingShape.lsrZpx (n : Byte) : EncodingShape.Statement (.lsrZpx n) := ⟨rfl, rfl, rfl⟩
theorem EncodingShape.lsrAbs (a : Addr) : EncodingShape.Statement (.lsrAbs a) := ⟨rfl, rfl, rfl⟩
theorem EncodingShape.lsrAbx (a : Addr) : EncodingShape.Statement (.lsrAbx a) := ⟨rfl, rfl, rfl⟩
theorem EncodingShape.rolAcc : EncodingShape.Statement .rolAcc := ⟨rfl, rfl, rfl⟩
theorem EncodingShape.rolZp (n : Byte) : EncodingShape.Statement (.rolZp n) := ⟨rfl, rfl, rfl⟩
theorem EncodingShape.rolZpx (n : Byte) : EncodingShape.Statement (.rolZpx n) := ⟨rfl, rfl, rfl⟩
theorem EncodingShape.rolAbs (a : Addr) : EncodingShape.Statement (.rolAbs a) := ⟨rfl, rfl, rfl⟩
theorem EncodingShape.rolAbx (a : Addr) : EncodingShape.Statement (.rolAbx a) := ⟨rfl, rfl, rfl⟩
theorem EncodingShape.rorAcc : EncodingShape.Statement .rorAcc := ⟨rfl, rfl, rfl⟩
theorem EncodingShape.rorZp (n : Byte) : EncodingShape.Statement (.rorZp n) := ⟨rfl, rfl, rfl⟩
theorem EncodingShape.rorZpx (n : Byte) : EncodingShape.Statement (.rorZpx n) := ⟨rfl, rfl, rfl⟩
theorem EncodingShape.rorAbs (a : Addr) : EncodingShape.Statement (.rorAbs a) := ⟨rfl, rfl, rfl⟩
theorem EncodingShape.rorAbx (a : Addr) : EncodingShape.Statement (.rorAbx a) := ⟨rfl, rfl, rfl⟩
theorem EncodingShape.jsrAbs (a : Addr) : EncodingShape.Statement (.jsrAbs a) := ⟨rfl, rfl, rfl⟩
theorem EncodingShape.rts : EncodingShape.Statement .rts := ⟨rfl, rfl, rfl⟩
theorem EncodingShape.jmpAbs (a : Addr) : EncodingShape.Statement (.jmpAbs a) := ⟨rfl, rfl, rfl⟩
theorem EncodingShape.jmpInd (a : Addr) : EncodingShape.Statement (.jmpInd a) := ⟨rfl, rfl, rfl⟩
theorem EncodingShape.rti : EncodingShape.Statement .rti := ⟨rfl, rfl, rfl⟩
theorem EncodingShape.incZp (n : Byte) : EncodingShape.Statement (.incZp n) := ⟨rfl, rfl, rfl⟩
theorem EncodingShape.incZpx (n : Byte) : EncodingShape.Statement (.incZpx n) := ⟨rfl, rfl, rfl⟩
theorem EncodingShape.incAbs (a : Addr) : EncodingShape.Statement (.incAbs a) := ⟨rfl, rfl, rfl⟩
theorem EncodingShape.incAbx (a : Addr) : EncodingShape.Statement (.incAbx a) := ⟨rfl, rfl, rfl⟩
theorem EncodingShape.decZp (n : Byte) : EncodingShape.Statement (.decZp n) := ⟨rfl, rfl, rfl⟩
theorem EncodingShape.decZpx (n : Byte) : EncodingShape.Statement (.decZpx n) := ⟨rfl, rfl, rfl⟩
theorem EncodingShape.decAbs (a : Addr) : EncodingShape.Statement (.decAbs a) := ⟨rfl, rfl, rfl⟩
theorem EncodingShape.decAbx (a : Addr) : EncodingShape.Statement (.decAbx a) := ⟨rfl, rfl, rfl⟩
theorem EncodingShape.inx : EncodingShape.Statement .inx := ⟨rfl, rfl, rfl⟩
theorem EncodingShape.dex : EncodingShape.Statement .dex := ⟨rfl, rfl, rfl⟩
theorem EncodingShape.iny : EncodingShape.Statement .iny := ⟨rfl, rfl, rfl⟩
theorem EncodingShape.dey : EncodingShape.Statement .dey := ⟨rfl, rfl, rfl⟩
theorem EncodingShape.adcImm (n : Byte) : EncodingShape.Statement (.adcImm n) := ⟨rfl, rfl, rfl⟩
theorem EncodingShape.adcZp (n : Byte) : EncodingShape.Statement (.adcZp n) := ⟨rfl, rfl, rfl⟩
theorem EncodingShape.adcZpx (n : Byte) : EncodingShape.Statement (.adcZpx n) := ⟨rfl, rfl, rfl⟩
theorem EncodingShape.adcAbs (a : Addr) : EncodingShape.Statement (.adcAbs a) := ⟨rfl, rfl, rfl⟩
theorem EncodingShape.adcAbx (a : Addr) : EncodingShape.Statement (.adcAbx a) := ⟨rfl, rfl, rfl⟩
theorem EncodingShape.adcAby (a : Addr) : EncodingShape.Statement (.adcAby a) := ⟨rfl, rfl, rfl⟩
theorem EncodingShape.adcIzx (n : Byte) : EncodingShape.Statement (.adcIzx n) := ⟨rfl, rfl, rfl⟩
theorem EncodingShape.adcIzy (n : Byte) : EncodingShape.Statement (.adcIzy n) := ⟨rfl, rfl, rfl⟩
theorem EncodingShape.sbcImm (n : Byte) : EncodingShape.Statement (.sbcImm n) := ⟨rfl, rfl, rfl⟩
theorem EncodingShape.sbcZp (n : Byte) : EncodingShape.Statement (.sbcZp n) := ⟨rfl, rfl, rfl⟩
theorem EncodingShape.sbcZpx (n : Byte) : EncodingShape.Statement (.sbcZpx n) := ⟨rfl, rfl, rfl⟩
theorem EncodingShape.sbcAbs (a : Addr) : EncodingShape.Statement (.sbcAbs a) := ⟨rfl, rfl, rfl⟩
theorem EncodingShape.sbcAbx (a : Addr) : EncodingShape.Statement (.sbcAbx a) := ⟨rfl, rfl, rfl⟩
theorem EncodingShape.sbcAby (a : Addr) : EncodingShape.Statement (.sbcAby a) := ⟨rfl, rfl, rfl⟩
theorem EncodingShape.sbcIzx (n : Byte) : EncodingShape.Statement (.sbcIzx n) := ⟨rfl, rfl, rfl⟩
theorem EncodingShape.sbcIzy (n : Byte) : EncodingShape.Statement (.sbcIzy n) := ⟨rfl, rfl, rfl⟩
theorem EncodingShape.bitZp (n : Byte) : EncodingShape.Statement (.bitZp n) := ⟨rfl, rfl, rfl⟩
theorem EncodingShape.bitAbs (a : Addr) : EncodingShape.Statement (.bitAbs a) := ⟨rfl, rfl, rfl⟩
theorem EncodingShape.andImm (n : Byte) : EncodingShape.Statement (.andImm n) := ⟨rfl, rfl, rfl⟩
theorem EncodingShape.andZp (n : Byte) : EncodingShape.Statement (.andZp n) := ⟨rfl, rfl, rfl⟩
theorem EncodingShape.andZpx (n : Byte) : EncodingShape.Statement (.andZpx n) := ⟨rfl, rfl, rfl⟩
theorem EncodingShape.andAbs (a : Addr) : EncodingShape.Statement (.andAbs a) := ⟨rfl, rfl, rfl⟩
theorem EncodingShape.andAbx (a : Addr) : EncodingShape.Statement (.andAbx a) := ⟨rfl, rfl, rfl⟩
theorem EncodingShape.andAby (a : Addr) : EncodingShape.Statement (.andAby a) := ⟨rfl, rfl, rfl⟩
theorem EncodingShape.andIzx (n : Byte) : EncodingShape.Statement (.andIzx n) := ⟨rfl, rfl, rfl⟩
theorem EncodingShape.andIzy (n : Byte) : EncodingShape.Statement (.andIzy n) := ⟨rfl, rfl, rfl⟩
theorem EncodingShape.oraImm (n : Byte) : EncodingShape.Statement (.oraImm n) := ⟨rfl, rfl, rfl⟩
theorem EncodingShape.oraZp (n : Byte) : EncodingShape.Statement (.oraZp n) := ⟨rfl, rfl, rfl⟩
theorem EncodingShape.oraZpx (n : Byte) : EncodingShape.Statement (.oraZpx n) := ⟨rfl, rfl, rfl⟩
theorem EncodingShape.oraAbs (a : Addr) : EncodingShape.Statement (.oraAbs a) := ⟨rfl, rfl, rfl⟩
theorem EncodingShape.oraAbx (a : Addr) : EncodingShape.Statement (.oraAbx a) := ⟨rfl, rfl, rfl⟩
theorem EncodingShape.oraAby (a : Addr) : EncodingShape.Statement (.oraAby a) := ⟨rfl, rfl, rfl⟩
theorem EncodingShape.oraIzx (n : Byte) : EncodingShape.Statement (.oraIzx n) := ⟨rfl, rfl, rfl⟩
theorem EncodingShape.oraIzy (n : Byte) : EncodingShape.Statement (.oraIzy n) := ⟨rfl, rfl, rfl⟩
theorem EncodingShape.eorImm (n : Byte) : EncodingShape.Statement (.eorImm n) := ⟨rfl, rfl, rfl⟩
theorem EncodingShape.eorZp (n : Byte) : EncodingShape.Statement (.eorZp n) := ⟨rfl, rfl, rfl⟩
theorem EncodingShape.eorZpx (n : Byte) : EncodingShape.Statement (.eorZpx n) := ⟨rfl, rfl, rfl⟩
theorem EncodingShape.eorAbs (a : Addr) : EncodingShape.Statement (.eorAbs a) := ⟨rfl, rfl, rfl⟩
theorem EncodingShape.eorAbx (a : Addr) : EncodingShape.Statement (.eorAbx a) := ⟨rfl, rfl, rfl⟩
theorem EncodingShape.eorAby (a : Addr) : EncodingShape.Statement (.eorAby a) := ⟨rfl, rfl, rfl⟩
theorem EncodingShape.eorIzx (n : Byte) : EncodingShape.Statement (.eorIzx n) := ⟨rfl, rfl, rfl⟩
theorem EncodingShape.eorIzy (n : Byte) : EncodingShape.Statement (.eorIzy n) := ⟨rfl, rfl, rfl⟩
theorem EncodingShape.tax : EncodingShape.Statement .tax := ⟨rfl, rfl, rfl⟩
theorem EncodingShape.txa : EncodingShape.Statement .txa := ⟨rfl, rfl, rfl⟩
theorem EncodingShape.tay : EncodingShape.Statement .tay := ⟨rfl, rfl, rfl⟩
theorem EncodingShape.tya : EncodingShape.Statement .tya := ⟨rfl, rfl, rfl⟩
theorem EncodingShape.tsx : EncodingShape.Statement .tsx := ⟨rfl, rfl, rfl⟩
theorem EncodingShape.txs : EncodingShape.Statement .txs := ⟨rfl, rfl, rfl⟩
theorem EncodingShape.clc : EncodingShape.Statement .clc := ⟨rfl, rfl, rfl⟩
theorem EncodingShape.sec : EncodingShape.Statement .sec := ⟨rfl, rfl, rfl⟩
theorem EncodingShape.cld : EncodingShape.Statement .cld := ⟨rfl, rfl, rfl⟩
theorem EncodingShape.sed : EncodingShape.Statement .sed := ⟨rfl, rfl, rfl⟩
theorem EncodingShape.cli : EncodingShape.Statement .cli := ⟨rfl, rfl, rfl⟩
theorem EncodingShape.sei : EncodingShape.Statement .sei := ⟨rfl, rfl, rfl⟩
theorem EncodingShape.clv : EncodingShape.Statement .clv := ⟨rfl, rfl, rfl⟩
theorem EncodingShape.pha : EncodingShape.Statement .pha := ⟨rfl, rfl, rfl⟩
theorem EncodingShape.pla : EncodingShape.Statement .pla := ⟨rfl, rfl, rfl⟩
theorem EncodingShape.php : EncodingShape.Statement .php := ⟨rfl, rfl, rfl⟩
theorem EncodingShape.plp : EncodingShape.Statement .plp := ⟨rfl, rfl, rfl⟩
theorem EncodingShape.nop : EncodingShape.Statement .nop := ⟨rfl, rfl, rfl⟩
theorem EncodingShape.brk : EncodingShape.Statement .brk := ⟨rfl, rfl, rfl⟩

end Sys2Proof.Laws
end

