-- ==== Sys2Proof/Tests/Slice0.lean ====
section
/-! SUPPORT. Tests. The expected results come from the spec: the encodings of 30_encoding.md R96, the vectors of 95_test_vectors.md. -/

namespace Sys2Proof.Tests

open Sys2Proof.Machine Sys2Proof.Safety

-- One theorem at a time: checked side by side, the kernel evaluations below each hold a thread and its memory.
set_option Elab.async false

/-! ### Well-formedness: an ill-formed term for each check -/

theorem test_wf_refuses_immediate_store : Line.wf ⟨.sta, .imm 0x05#8⟩ = false := by decide

theorem test_wf_refuses_x_indexed_ldx : Line.wf ⟨.ldx, .mem (.zpx 0x44#8)⟩ = false := by decide

theorem test_wf_accepts_y_indexed_ldx : Line.wf ⟨.ldx, .mem (.zpy 0x44#8)⟩ = true := by decide

theorem test_branch_out_of_range_refused : branchReaches 0x0200#16 0x0282#16 = false := by decide

theorem test_branch_in_range : branchReaches 0x0200#16 0x0281#16 = true ∧ branchReaches 0x0001#16 0xFFFF#16 = true := by decide

/-- E13: `BPL $4400` at $43F0 is `10 0E`, at $4410 it is `10 EE`. -/
theorem test_branch_displacement :
    branchDisplacement 0x43F0#16 0x4400#16 = some 0x0E#8 ∧ branchDisplacement 0x4410#16 0x4400#16 = some 0xEE#8 := by decide

theorem test_memory_wf_refuses :
    Memory.wf [(2, 0x01#8), (1, 0x01#8)] = false ∧ Memory.wf [(1, 0x00#8)] = false ∧ Memory.wf [(65536, 0x01#8)] = false := by decide

/-! ### Decoding: every constructor, from its encoding written out -/

/-- A list of bytes decodes to the instruction and nothing is left. -/
def decodesTo (w : List Byte × Instr) : Bool :=
  match decode w.1 with
  | .ok (i, []) => decide (i = w.2)
  | _ => false

/-- 40_load_store.md: the words of R96, column binary, with the operand bytes $44 and $97 $55. -/
def loadStoreWords : List (List Byte × Instr) :=
  [([0b10101001#8, 0x44#8], .ldaImm 0x44#8),
   ([0b10100101#8, 0x44#8], .ldaZp 0x44#8),
   ([0b10110101#8, 0x44#8], .ldaZpx 0x44#8),
   ([0b10101101#8, 0x97#8, 0x55#8], .ldaAbs 0x5597#16),
   ([0b10111101#8, 0x97#8, 0x55#8], .ldaAbx 0x5597#16),
   ([0b10111001#8, 0x97#8, 0x55#8], .ldaAby 0x5597#16),
   ([0b10100001#8, 0x44#8], .ldaIzx 0x44#8),
   ([0b10110001#8, 0x44#8], .ldaIzy 0x44#8),
   ([0b10100010#8, 0x44#8], .ldxImm 0x44#8),
   ([0b10100110#8, 0x44#8], .ldxZp 0x44#8),
   ([0b10110110#8, 0x44#8], .ldxZpy 0x44#8),
   ([0b10101110#8, 0x97#8, 0x55#8], .ldxAbs 0x5597#16),
   ([0b10111110#8, 0x97#8, 0x55#8], .ldxAby 0x5597#16),
   ([0b10100000#8, 0x44#8], .ldyImm 0x44#8),
   ([0b10100100#8, 0x44#8], .ldyZp 0x44#8),
   ([0b10110100#8, 0x44#8], .ldyZpx 0x44#8),
   ([0b10101100#8, 0x97#8, 0x55#8], .ldyAbs 0x5597#16),
   ([0b10111100#8, 0x97#8, 0x55#8], .ldyAbx 0x5597#16),
   ([0b10000101#8, 0x44#8], .staZp 0x44#8),
   ([0b10010101#8, 0x44#8], .staZpx 0x44#8),
   ([0b10001101#8, 0x97#8, 0x55#8], .staAbs 0x5597#16),
   ([0b10011101#8, 0x97#8, 0x55#8], .staAbx 0x5597#16),
   ([0b10011001#8, 0x97#8, 0x55#8], .staAby 0x5597#16),
   ([0b10000001#8, 0x44#8], .staIzx 0x44#8),
   ([0b10010001#8, 0x44#8], .staIzy 0x44#8),
   ([0b10000110#8, 0x44#8], .stxZp 0x44#8),
   ([0b10010110#8, 0x44#8], .stxZpy 0x44#8),
   ([0b10001110#8, 0x97#8, 0x55#8], .stxAbs 0x5597#16),
   ([0b10000100#8, 0x44#8], .styZp 0x44#8),
   ([0b10010100#8, 0x44#8], .styZpx 0x44#8),
   ([0b10001100#8, 0x97#8, 0x55#8], .styAbs 0x5597#16)]

theorem test_decode_loadStore : loadStoreWords.all decodesTo = true := by
  decide +kernel

/-- 41_compare.md: the words of R96, column binary, with the operand bytes $44 and $97 $55. -/
def compareWords : List (List Byte × Instr) :=
  [([0b11001001#8, 0x44#8], .cmpImm 0x44#8),
   ([0b11000101#8, 0x44#8], .cmpZp 0x44#8),
   ([0b11010101#8, 0x44#8], .cmpZpx 0x44#8),
   ([0b11001101#8, 0x97#8, 0x55#8], .cmpAbs 0x5597#16),
   ([0b11011101#8, 0x97#8, 0x55#8], .cmpAbx 0x5597#16),
   ([0b11011001#8, 0x97#8, 0x55#8], .cmpAby 0x5597#16),
   ([0b11000001#8, 0x44#8], .cmpIzx 0x44#8),
   ([0b11010001#8, 0x44#8], .cmpIzy 0x44#8),
   ([0b11100000#8, 0x44#8], .cpxImm 0x44#8),
   ([0b11100100#8, 0x44#8], .cpxZp 0x44#8),
   ([0b11101100#8, 0x97#8, 0x55#8], .cpxAbs 0x5597#16),
   ([0b11000000#8, 0x44#8], .cpyImm 0x44#8),
   ([0b11000100#8, 0x44#8], .cpyZp 0x44#8),
   ([0b11001100#8, 0x97#8, 0x55#8], .cpyAbs 0x5597#16)]

theorem test_decode_compare : compareWords.all decodesTo = true := by
  decide +kernel

/-- 42_branch.md: the words of R96, column binary, with the operand bytes $44 and $97 $55. -/
def branchWords : List (List Byte × Instr) :=
  [([0b00010000#8, 0x44#8], .bpl 0x44#8),
   ([0b00110000#8, 0x44#8], .bmi 0x44#8),
   ([0b01010000#8, 0x44#8], .bvc 0x44#8),
   ([0b01110000#8, 0x44#8], .bvs 0x44#8),
   ([0b10010000#8, 0x44#8], .bcc 0x44#8),
   ([0b10110000#8, 0x44#8], .bcs 0x44#8),
   ([0b11010000#8, 0x44#8], .bne 0x44#8),
   ([0b11110000#8, 0x44#8], .beq 0x44#8)]

theorem test_decode_branch : branchWords.all decodesTo = true := by
  decide +kernel

/-- 43_shift_rotate.md: the words of R96, column binary, with the operand bytes $44 and $97 $55. -/
def shiftRotateWords : List (List Byte × Instr) :=
  [([0b00001010#8], .aslAcc),
   ([0b00000110#8, 0x44#8], .aslZp 0x44#8),
   ([0b00010110#8, 0x44#8], .aslZpx 0x44#8),
   ([0b00001110#8, 0x97#8, 0x55#8], .aslAbs 0x5597#16),
   ([0b00011110#8, 0x97#8, 0x55#8], .aslAbx 0x5597#16),
   ([0b01001010#8], .lsrAcc),
   ([0b01000110#8, 0x44#8], .lsrZp 0x44#8),
   ([0b01010110#8, 0x44#8], .lsrZpx 0x44#8),
   ([0b01001110#8, 0x97#8, 0x55#8], .lsrAbs 0x5597#16),
   ([0b01011110#8, 0x97#8, 0x55#8], .lsrAbx 0x5597#16),
   ([0b00101010#8], .rolAcc),
   ([0b00100110#8, 0x44#8], .rolZp 0x44#8),
   ([0b00110110#8, 0x44#8], .rolZpx 0x44#8),
   ([0b00101110#8, 0x97#8, 0x55#8], .rolAbs 0x5597#16),
   ([0b00111110#8, 0x97#8, 0x55#8], .rolAbx 0x5597#16),
   ([0b01101010#8], .rorAcc),
   ([0b01100110#8, 0x44#8], .rorZp 0x44#8),
   ([0b01110110#8, 0x44#8], .rorZpx 0x44#8),
   ([0b01101110#8, 0x97#8, 0x55#8], .rorAbs 0x5597#16),
   ([0b01111110#8, 0x97#8, 0x55#8], .rorAbx 0x5597#16)]

theorem test_decode_shiftRotate : shiftRotateWords.all decodesTo = true := by
  decide +kernel

/-- 44_jump_return.md: the words of R96, column binary, with the operand bytes $44 and $97 $55. -/
def jumpReturnWords : List (List Byte × Instr) :=
  [([0b00100000#8, 0x97#8, 0x55#8], .jsrAbs 0x5597#16),
   ([0b01100000#8], .rts),
   ([0b01001100#8, 0x97#8, 0x55#8], .jmpAbs 0x5597#16),
   ([0b01101100#8, 0x97#8, 0x55#8], .jmpInd 0x5597#16),
   ([0b01000000#8], .rti)]

theorem test_decode_jumpReturn : jumpReturnWords.all decodesTo = true := by
  decide +kernel

/-- 45_counter.md: the words of R96, column binary, with the operand bytes $44 and $97 $55. -/
def counterWords : List (List Byte × Instr) :=
  [([0b11100110#8, 0x44#8], .incZp 0x44#8),
   ([0b11110110#8, 0x44#8], .incZpx 0x44#8),
   ([0b11101110#8, 0x97#8, 0x55#8], .incAbs 0x5597#16),
   ([0b11111110#8, 0x97#8, 0x55#8], .incAbx 0x5597#16),
   ([0b11000110#8, 0x44#8], .decZp 0x44#8),
   ([0b11010110#8, 0x44#8], .decZpx 0x44#8),
   ([0b11001110#8, 0x97#8, 0x55#8], .decAbs 0x5597#16),
   ([0b11011110#8, 0x97#8, 0x55#8], .decAbx 0x5597#16),
   ([0b11101000#8], .inx),
   ([0b11001010#8], .dex),
   ([0b11001000#8], .iny),
   ([0b10001000#8], .dey)]

theorem test_decode_counter : counterWords.all decodesTo = true := by
  decide +kernel

/-- 46_arith_logic.md: the words of R96, column binary, with the operand bytes $44 and $97 $55. -/
def arithLogicWords : List (List Byte × Instr) :=
  [([0b01101001#8, 0x44#8], .adcImm 0x44#8),
   ([0b01100101#8, 0x44#8], .adcZp 0x44#8),
   ([0b01110101#8, 0x44#8], .adcZpx 0x44#8),
   ([0b01101101#8, 0x97#8, 0x55#8], .adcAbs 0x5597#16),
   ([0b01111101#8, 0x97#8, 0x55#8], .adcAbx 0x5597#16),
   ([0b01111001#8, 0x97#8, 0x55#8], .adcAby 0x5597#16),
   ([0b01100001#8, 0x44#8], .adcIzx 0x44#8),
   ([0b01110001#8, 0x44#8], .adcIzy 0x44#8),
   ([0b11101001#8, 0x44#8], .sbcImm 0x44#8),
   ([0b11100101#8, 0x44#8], .sbcZp 0x44#8),
   ([0b11110101#8, 0x44#8], .sbcZpx 0x44#8),
   ([0b11101101#8, 0x97#8, 0x55#8], .sbcAbs 0x5597#16),
   ([0b11111101#8, 0x97#8, 0x55#8], .sbcAbx 0x5597#16),
   ([0b11111001#8, 0x97#8, 0x55#8], .sbcAby 0x5597#16),
   ([0b11100001#8, 0x44#8], .sbcIzx 0x44#8),
   ([0b11110001#8, 0x44#8], .sbcIzy 0x44#8),
   ([0b00100100#8, 0x44#8], .bitZp 0x44#8),
   ([0b00101100#8, 0x97#8, 0x55#8], .bitAbs 0x5597#16),
   ([0b00101001#8, 0x44#8], .andImm 0x44#8),
   ([0b00100101#8, 0x44#8], .andZp 0x44#8),
   ([0b00110101#8, 0x44#8], .andZpx 0x44#8),
   ([0b00101101#8, 0x97#8, 0x55#8], .andAbs 0x5597#16),
   ([0b00111101#8, 0x97#8, 0x55#8], .andAbx 0x5597#16),
   ([0b00111001#8, 0x97#8, 0x55#8], .andAby 0x5597#16),
   ([0b00100001#8, 0x44#8], .andIzx 0x44#8),
   ([0b00110001#8, 0x44#8], .andIzy 0x44#8),
   ([0b00001001#8, 0x44#8], .oraImm 0x44#8),
   ([0b00000101#8, 0x44#8], .oraZp 0x44#8),
   ([0b00010101#8, 0x44#8], .oraZpx 0x44#8),
   ([0b00001101#8, 0x97#8, 0x55#8], .oraAbs 0x5597#16),
   ([0b00011101#8, 0x97#8, 0x55#8], .oraAbx 0x5597#16),
   ([0b00011001#8, 0x97#8, 0x55#8], .oraAby 0x5597#16),
   ([0b00000001#8, 0x44#8], .oraIzx 0x44#8),
   ([0b00010001#8, 0x44#8], .oraIzy 0x44#8),
   ([0b01001001#8, 0x44#8], .eorImm 0x44#8),
   ([0b01000101#8, 0x44#8], .eorZp 0x44#8),
   ([0b01010101#8, 0x44#8], .eorZpx 0x44#8),
   ([0b01001101#8, 0x97#8, 0x55#8], .eorAbs 0x5597#16),
   ([0b01011101#8, 0x97#8, 0x55#8], .eorAbx 0x5597#16),
   ([0b01011001#8, 0x97#8, 0x55#8], .eorAby 0x5597#16),
   ([0b01000001#8, 0x44#8], .eorIzx 0x44#8),
   ([0b01010001#8, 0x44#8], .eorIzy 0x44#8)]

theorem test_decode_arithLogic : arithLogicWords.all decodesTo = true := by
  decide +kernel

/-- 47_transfer.md: the words of R96, column binary, with the operand bytes $44 and $97 $55. -/
def transferWords : List (List Byte × Instr) :=
  [([0b10101010#8], .tax),
   ([0b10001010#8], .txa),
   ([0b10101000#8], .tay),
   ([0b10011000#8], .tya),
   ([0b10111010#8], .tsx),
   ([0b10011010#8], .txs)]

theorem test_decode_transfer : transferWords.all decodesTo = true := by
  decide +kernel

/-- 48_flag_set_clear.md: the words of R96, column binary, with the operand bytes $44 and $97 $55. -/
def flagSetClearWords : List (List Byte × Instr) :=
  [([0b00011000#8], .clc),
   ([0b00111000#8], .sec),
   ([0b11011000#8], .cld),
   ([0b11111000#8], .sed),
   ([0b01011000#8], .cli),
   ([0b01111000#8], .sei),
   ([0b10111000#8], .clv)]

theorem test_decode_flagSetClear : flagSetClearWords.all decodesTo = true := by
  decide +kernel

/-- 49_stack_misc.md: the words of R96, column binary, with the operand bytes $44 and $97 $55. -/
def stackMiscWords : List (List Byte × Instr) :=
  [([0b01001000#8], .pha),
   ([0b01101000#8], .pla),
   ([0b00001000#8], .php),
   ([0b00101000#8], .plp),
   ([0b11101010#8], .nop),
   ([0b00000000#8], .brk)]

theorem test_decode_stackMisc : stackMiscWords.all decodesTo = true := by
  decide +kernel

theorem test_decode_truncated : decode [0xAD#8, 0x00#8] = .error .truncated := by rfl

theorem test_decode_illegal : decode [0x9C#8, 0x00#8] = .error (.illegalOpcode 0x9C#8) := by rfl

theorem test_table_word : decodeTableWord 24 0x559720 = some (.jsrAbs 0x5597#16) := by decide

theorem test_table_word_short : decodeTableWord 8 0x559700 = some .brk := by decide

/-! ### One step from the start state of 95_test_vectors.md part 0 -/

/-- The default start state of 95_test_vectors.md. -/
def base : State :=
  { State.reset with envEnd := .quiet, sp := 0xFF#8, pc := 0x0200#16, p := { n := false, v := false, d := false, i := false, z := false, c := false } }

/-- Storage with the given bytes stored. -/
def stored (cells : List (Addr × Byte)) (m : Memory) : Memory := cells.foldl (fun m c => m.write c.1.toNat c.2) m

/-- One step, with the bytes of the instruction at pc and the cells stored, ends in a state that passes the check. -/
def after (bytes : List Byte) (cells : List (Addr × Byte)) (s : State) (check : State → Bool) : Bool :=
  match step (s.setMem (stored cells (pokeBytes s.pc bytes s.mem))) with
  | .next t => check t
  | .fault r => nomatch r
  | .refused _ => false

/-- 95_test_vectors.md LS1, LS2, LS3, LS4, LS5, LS6, LS7, LS8, LS9, LS10. -/
theorem test_lda_vectors :
    ((after [0xA9#8, 0x00#8] [] { base with a := 0x55#8 } fun t => t.a == 0x00#8 && t.p.n == false && t.p.z == true && t.pc == 0x0202#16) &&
     (after [0xA9#8, 0x80#8] [] base fun t => t.a == 0x80#8 && t.p.n == true && t.p.z == false && t.pc == 0x0202#16) &&
     (after [0xA5#8, 0x44#8] [(0x0044#16, 0x7F#8)] base fun t => t.a == 0x7F#8 && t.p.n == false && t.p.z == false && t.pc == 0x0202#16) &&
     (after [0xB5#8, 0xF0#8] [(0x0010#16, 0x11#8), (0x0110#16, 0x99#8)] { base with x := 0x20#8 } fun t => t.a == 0x11#8 && t.pc == 0x0202#16) &&
     (after [0xAD#8, 0x00#8, 0x44#8] [(0x4400#16, 0xFF#8)] base fun t => t.a == 0xFF#8 && t.p.n == true && t.pc == 0x0203#16) &&
     (after [0xBD#8, 0xF0#8, 0x44#8] [(0x4510#16, 0x12#8)] { base with x := 0x20#8 } fun t => t.a == 0x12#8 && t.pc == 0x0203#16) &&
     (after [0xB9#8, 0xF0#8, 0xFF#8] [(0x0010#16, 0x34#8)] { base with y := 0x20#8 } fun t => t.a == 0x34#8 && t.pc == 0x0203#16) &&
     (after [0xA1#8, 0xFE#8] [(0x00FF#16, 0x00#8), (0x0000#16, 0x30#8), (0x3000#16, 0x56#8), (0x0100#16, 0x40#8)] { base with x := 0x01#8 } fun t => t.a == 0x56#8 && t.pc == 0x0202#16) &&
     (after [0xB1#8, 0xFF#8] [(0x00FF#16, 0xFF#8), (0x0000#16, 0x30#8), (0x3100#16, 0x77#8), (0x0100#16, 0x40#8)] { base with y := 0x01#8 } fun t => t.a == 0x77#8 && t.pc == 0x0202#16) &&
     (after [0xB1#8, 0x10#8] [(0x0010#16, 0xFF#8), (0x0011#16, 0xFF#8), (0x0001#16, 0x9A#8)] { base with y := 0x02#8 } fun t => t.a == 0x9A#8 && t.p.n == true && t.pc == 0x0202#16)) = true := by
  decide +kernel

/-- 95_test_vectors.md LS11, LS12. -/
theorem test_ldx_vectors :
    ((after [0xB6#8, 0xF0#8] [(0x0001#16, 0x80#8)] { base with y := 0x11#8 } fun t => t.x == 0x80#8 && t.p.n == true && t.pc == 0x0202#16) &&
     (after [0xBE#8, 0x00#8, 0x44#8] [(0x4401#16, 0x00#8)] { base with y := 0x01#8, x := 0x05#8 } fun t => t.x == 0x00#8 && t.p.z == true && t.pc == 0x0203#16)) = true := by
  decide +kernel

/-- 95_test_vectors.md LS13, LS14. -/
theorem test_ldy_vectors :
    ((after [0xBC#8, 0x00#8, 0x44#8] [(0x4401#16, 0x81#8)] { base with x := 0x01#8 } fun t => t.y == 0x81#8 && t.p.n == true && t.pc == 0x0203#16) &&
     (after [0xA0#8, 0x7F#8] [] base fun t => t.y == 0x7F#8 && t.pc == 0x0202#16)) = true := by
  decide +kernel

/-- 95_test_vectors.md LS15, LS16, LS17, LS18. -/
theorem test_sta_vectors :
    ((after [0x85#8, 0x44#8] [(0x0044#16, 0xEE#8)] { base with a := 0x00#8, p := { base.p with z := false, n := true } } fun t => t.peek 0x0044#16 == 0x00#8 && t.pc == 0x0202#16) &&
     (after [0x9D#8, 0x00#8, 0x44#8] [] { base with a := 0x42#8, x := 0xFF#8 } fun t => t.peek 0x44FF#16 == 0x42#8 && t.pc == 0x0203#16) &&
     (after [0x91#8, 0x20#8] [(0x0020#16, 0xF8#8), (0x0021#16, 0x12#8)] { base with a := 0x99#8, y := 0x10#8 } fun t => t.peek 0x1308#16 == 0x99#8 && t.pc == 0x0202#16) &&
     (after [0x81#8, 0x20#8] [(0x0000#16, 0x34#8), (0x0001#16, 0x12#8)] { base with a := 0x77#8, x := 0xE0#8 } fun t => t.peek 0x1234#16 == 0x77#8 && t.pc == 0x0202#16)) = true := by
  decide +kernel

/-- 95_test_vectors.md LS19, LS21. -/
theorem test_stx_vectors :
    ((after [0x96#8, 0xF0#8] [] { base with x := 0xAB#8, y := 0x20#8 } fun t => t.peek 0x0010#16 == 0xAB#8 && t.pc == 0x0202#16) &&
     (after [0x8E#8, 0x00#8, 0x44#8] [] { base with x := 0x01#8 } fun t => t.peek 0x4400#16 == 0x01#8 && t.pc == 0x0203#16)) = true := by
  decide +kernel

/-- 95_test_vectors.md LS20, LS22. -/
theorem test_sty_vectors :
    ((after [0x94#8, 0xF0#8] [] { base with y := 0xCD#8, x := 0x20#8 } fun t => t.peek 0x0010#16 == 0xCD#8 && t.pc == 0x0202#16) &&
     (after [0x84#8, 0x44#8] [] { base with y := 0x02#8 } fun t => t.peek 0x0044#16 == 0x02#8 && t.pc == 0x0202#16)) = true := by
  decide +kernel

/-- 95_test_vectors.md CP1, CP2, CP3, CP4, CP5, CP6, CP7, CP8. -/
theorem test_cmp_vectors :
    ((after [0xC9#8, 0x40#8] [] { base with a := 0x40#8 } fun t => t.p.n == false && t.p.z == true && t.p.c == true && t.pc == 0x0202#16) &&
     (after [0xC9#8, 0x41#8] [] { base with a := 0x40#8 } fun t => t.p.n == true && t.p.z == false && t.p.c == false && t.pc == 0x0202#16) &&
     (after [0xC9#8, 0x3F#8] [] { base with a := 0x40#8, p := { base.p with c := false } } fun t => t.p.n == false && t.p.z == false && t.p.c == true && t.pc == 0x0202#16) &&
     (after [0xC9#8, 0x01#8] [] { base with a := 0x81#8, p := { base.p with v := true } } fun t => t.p.n == true && t.p.v == true && t.p.z == false && t.p.c == true && t.pc == 0x0202#16) &&
     (after [0xC9#8, 0xFF#8] [] { base with a := 0x00#8, p := { base.p with c := true } } fun t => t.p.n == false && t.p.z == false && t.p.c == false && t.pc == 0x0202#16) &&
     (after [0xC9#8, 0x00#8] [] { base with a := 0x80#8 } fun t => t.p.n == true && t.p.z == false && t.p.c == true && t.pc == 0x0202#16) &&
     (after [0xC9#8, 0x80#8] [] { base with a := 0x00#8 } fun t => t.p.n == true && t.p.z == false && t.p.c == false && t.pc == 0x0202#16) &&
     (after [0xD1#8, 0x44#8] [(0x0044#16, 0x00#8), (0x0045#16, 0x20#8), (0x2001#16, 0x10#8)] { base with a := 0x10#8, y := 0x01#8 } fun t => t.p.n == false && t.p.z == true && t.p.c == true && t.pc == 0x0202#16)) = true := by
  decide +kernel

/-- 95_test_vectors.md CP9, CP10. -/
theorem test_cpx_vectors :
    ((after [0xE0#8, 0x10#8] [] { base with x := 0x20#8, a := 0x00#8 } fun t => t.p.n == false && t.p.z == false && t.p.c == true && t.pc == 0x0202#16) &&
     (after [0xE4#8, 0x44#8] [(0x0044#16, 0x01#8)] { base with x := 0x00#8 } fun t => t.p.n == true && t.p.z == false && t.p.c == false && t.pc == 0x0202#16)) = true := by
  decide +kernel

/-- 95_test_vectors.md CP11, CP12. -/
theorem test_cpy_vectors :
    ((after [0xC0#8, 0xFF#8] [] { base with y := 0xFF#8 } fun t => t.p.n == false && t.p.z == true && t.p.c == true && t.pc == 0x0202#16) &&
     (after [0xCC#8, 0x00#8, 0x44#8] [(0x4400#16, 0x80#8)] { base with y := 0x7F#8 } fun t => t.p.n == true && t.p.z == false && t.p.c == false && t.pc == 0x0203#16)) = true := by
  decide +kernel

/-- 95_test_vectors.md BR1, BR2. -/
theorem test_bpl_vectors :
    ((after [0x10#8, 0x05#8] [] { base with p := { base.p with n := false } } fun t => t.pc == 0x0207#16) &&
     (after [0x10#8, 0x05#8] [] { base with p := { base.p with n := true } } fun t => t.pc == 0x0202#16)) = true := by
  decide +kernel

/-- 95_test_vectors.md BR3. -/
theorem test_bmi_vectors :
    ((after [0x30#8, 0xFE#8] [] { base with p := { base.p with n := true } } fun t => t.pc == 0x0200#16)) = true := by
  decide +kernel

/-- 95_test_vectors.md BR4. -/
theorem test_bvc_vectors :
    ((after [0x50#8, 0x00#8] [] { base with p := { base.p with v := false } } fun t => t.pc == 0x0202#16)) = true := by
  decide +kernel

/-- 95_test_vectors.md BR5. -/
theorem test_bvs_vectors :
    ((after [0x70#8, 0x7F#8] [] { base with p := { base.p with v := true } } fun t => t.pc == 0x0281#16)) = true := by
  decide +kernel

/-- 95_test_vectors.md BR6. -/
theorem test_bcc_vectors :
    ((after [0x90#8, 0x80#8] [] { base with p := { base.p with c := false } } fun t => t.pc == 0x0182#16)) = true := by
  decide +kernel

/-- 95_test_vectors.md BR7. -/
theorem test_bcs_vectors :
    ((after [0xB0#8, 0x02#8] [] { base with pc := 0x10FC#16, p := { base.p with c := true } } fun t => t.pc == 0x1100#16)) = true := by
  decide +kernel

/-- 95_test_vectors.md BR8, BR11. -/
theorem test_bne_vectors :
    ((after [0xD0#8, 0xFC#8] [] { base with pc := 0x0001#16, p := { base.p with z := false } } fun t => t.pc == 0xFFFF#16) &&
     (after [0xD0#8, 0x03#8] [] { base with p := { base.p with z := true } } fun t => t.pc == 0x0202#16)) = true := by
  decide +kernel

/-- 95_test_vectors.md BR9, BR10. -/
theorem test_beq_vectors :
    ((after [0xF0#8, 0x10#8] [] { base with pc := 0xFFF8#16, p := { base.p with z := true } } fun t => t.pc == 0x000A#16) &&
     (after [0xF0#8, 0x10#8] [] { base with p := { base.p with z := false } } fun t => t.pc == 0x0202#16)) = true := by
  decide +kernel

/-- 95_test_vectors.md SH1, SH2, SH3, SH4. -/
theorem test_asl_vectors :
    ((after [0x0A#8] [] { base with a := 0x81#8 } fun t => t.a == 0x02#8 && t.p.n == false && t.p.z == false && t.p.c == true && t.pc == 0x0201#16) &&
     (after [0x0A#8] [] { base with a := 0x80#8, p := { base.p with c := false } } fun t => t.a == 0x00#8 && t.p.n == false && t.p.z == true && t.p.c == true && t.pc == 0x0201#16) &&
     (after [0x0A#8] [] { base with a := 0x40#8, p := { base.p with c := true } } fun t => t.a == 0x80#8 && t.p.n == true && t.p.z == false && t.p.c == false && t.pc == 0x0201#16) &&
     (after [0x06#8, 0x44#8] [(0x0044#16, 0xFF#8)] { base with a := 0x33#8 } fun t => t.p.n == true && t.p.z == false && t.p.c == true && t.peek 0x0044#16 == 0xFE#8 && t.pc == 0x0202#16)) = true := by
  decide +kernel

/-- 95_test_vectors.md SH5, SH6, SH7. -/
theorem test_lsr_vectors :
    ((after [0x4A#8] [] { base with a := 0x01#8, p := { base.p with n := true } } fun t => t.a == 0x00#8 && t.p.n == false && t.p.z == true && t.p.c == true && t.pc == 0x0201#16) &&
     (after [0x4A#8] [] { base with a := 0xFF#8, p := { base.p with c := true } } fun t => t.a == 0x7F#8 && t.p.n == false && t.p.z == false && t.p.c == true && t.pc == 0x0201#16) &&
     (after [0x5E#8, 0x00#8, 0x44#8] [(0x4401#16, 0x02#8)] { base with x := 0x01#8, p := { base.p with c := true } } fun t => t.p.n == false && t.p.z == false && t.p.c == false && t.peek 0x4401#16 == 0x01#8 && t.pc == 0x0203#16)) = true := by
  decide +kernel

/-- 95_test_vectors.md SH8, SH9, SH10. -/
theorem test_rol_vectors :
    ((after [0x2A#8] [] { base with a := 0x80#8, p := { base.p with c := false } } fun t => t.a == 0x00#8 && t.p.n == false && t.p.z == true && t.p.c == true && t.pc == 0x0201#16) &&
     (after [0x2A#8] [] { base with a := 0x40#8, p := { base.p with c := true } } fun t => t.a == 0x81#8 && t.p.n == true && t.p.z == false && t.p.c == false && t.pc == 0x0201#16) &&
     (after [0x36#8, 0x44#8] [(0x0043#16, 0x00#8)] { base with x := 0xFF#8, p := { base.p with c := true } } fun t => t.p.n == false && t.p.z == false && t.p.c == false && t.peek 0x0043#16 == 0x01#8 && t.pc == 0x0202#16)) = true := by
  decide +kernel

/-- 95_test_vectors.md SH11, SH12, SH13. -/
theorem test_ror_vectors :
    ((after [0x6A#8] [] { base with a := 0x01#8, p := { base.p with c := false } } fun t => t.a == 0x00#8 && t.p.n == false && t.p.z == true && t.p.c == true && t.pc == 0x0201#16) &&
     (after [0x6A#8] [] { base with a := 0x00#8, p := { base.p with c := true } } fun t => t.a == 0x80#8 && t.p.n == true && t.p.z == false && t.p.c == false && t.pc == 0x0201#16) &&
     (after [0x6E#8, 0x00#8, 0x44#8] [(0x4400#16, 0x01#8)] { base with p := { base.p with c := true } } fun t => t.p.n == true && t.p.z == false && t.p.c == true && t.peek 0x4400#16 == 0x80#8 && t.pc == 0x0203#16)) = true := by
  decide +kernel

/-- 95_test_vectors.md JP1, JP2. -/
theorem test_jsr_vectors :
    ((after [0x20#8, 0x97#8, 0x55#8] [] { base with pc := 0x0600#16 } fun t => t.sp == 0xFD#8 && t.peek 0x01FE#16 == 0x02#8 && t.peek 0x01FF#16 == 0x06#8 && t.pc == 0x5597#16) &&
     (after [0x20#8, 0x34#8, 0x12#8] [] { base with sp := 0x00#8, pc := 0x02FE#16 } fun t => t.sp == 0xFE#8 && t.peek 0x0100#16 == 0x03#8 && t.peek 0x01FF#16 == 0x00#8 && t.pc == 0x1234#16)) = true := by
  decide +kernel

/-- 95_test_vectors.md JP3, JP4, JP5. -/
theorem test_rts_vectors :
    ((after [0x60#8] [(0x01FE#16, 0x02#8), (0x01FF#16, 0x06#8)] { base with sp := 0xFD#8 } fun t => t.sp == 0xFF#8 && t.pc == 0x0603#16) &&
     (after [0x60#8] [(0x01FE#16, 0xFF#8), (0x01FF#16, 0xFF#8)] { base with sp := 0xFD#8 } fun t => t.sp == 0xFF#8 && t.pc == 0x0000#16) &&
     (after [0x60#8] [(0x01FF#16, 0x33#8), (0x0100#16, 0x44#8)] { base with sp := 0xFE#8 } fun t => t.sp == 0x00#8 && t.pc == 0x4434#16)) = true := by
  decide +kernel

/-- 95_test_vectors.md JP6, JP7, JP8. -/
theorem test_jmp_vectors :
    ((after [0x4C#8, 0x97#8, 0x55#8] [] base fun t => t.pc == 0x5597#16) &&
     (after [0x6C#8, 0x00#8, 0x40#8] [(0x4000#16, 0x97#8), (0x4001#16, 0x55#8)] base fun t => t.pc == 0x5597#16) &&
     (after [0x6C#8, 0xFF#8, 0x30#8] [(0x3000#16, 0x40#8), (0x30FF#16, 0x80#8), (0x3100#16, 0x50#8)] base fun t => t.pc == 0x4080#16)) = true := by
  decide +kernel

/-- 95_test_vectors.md JP9, JP10. -/
theorem test_rti_vectors :
    ((after [0x40#8] [(0x01FD#16, 0xC3#8), (0x01FE#16, 0x34#8), (0x01FF#16, 0x12#8)] { base with sp := 0xFC#8, p := { base.p with i := true } } fun t => t.sp == 0xFF#8 && t.p.n == true && t.p.v == true && t.p.i == false && t.p.z == true && t.p.c == true && t.pc == 0x1234#16) &&
     (after [0x40#8] [(0x01FD#16, 0x3C#8), (0x01FE#16, 0x00#8), (0x01FF#16, 0x90#8)] { base with sp := 0xFC#8, p := { base.p with n := true, v := true, z := true, c := true } } fun t => t.sp == 0xFF#8 && t.p.n == false && t.p.v == false && t.p.d == true && t.p.i == true && t.p.z == false && t.p.c == false && t.pc == 0x9000#16)) = true := by
  decide +kernel

/-- 95_test_vectors.md CT1, CT2, CT9. -/
theorem test_inc_vectors :
    ((after [0xE6#8, 0x44#8] [(0x0044#16, 0xFF#8)] { base with p := { base.p with c := false } } fun t => t.p.n == false && t.p.z == true && t.p.c == false && t.peek 0x0044#16 == 0x00#8 && t.pc == 0x0202#16) &&
     (after [0xFE#8, 0x00#8, 0x44#8] [(0x4402#16, 0x7F#8)] { base with x := 0x02#8, p := { base.p with v := false } } fun t => t.p.n == true && t.p.v == false && t.p.z == false && t.peek 0x4402#16 == 0x80#8 && t.pc == 0x0203#16) &&
     (after [0xE6#8, 0x44#8] [(0x0044#16, 0x09#8)] { base with p := { base.p with d := true } } fun t => t.p.n == false && t.p.z == false && t.peek 0x0044#16 == 0x0A#8 && t.pc == 0x0202#16)) = true := by
  decide +kernel

/-- 95_test_vectors.md CT3, CT4. -/
theorem test_dec_vectors :
    ((after [0xC6#8, 0x44#8] [(0x0044#16, 0x00#8)] { base with p := { base.p with c := true } } fun t => t.p.n == true && t.p.z == false && t.p.c == true && t.peek 0x0044#16 == 0xFF#8 && t.pc == 0x0202#16) &&
     (after [0xCE#8, 0x00#8, 0x44#8] [(0x4400#16, 0x01#8)] base fun t => t.p.n == false && t.p.z == true && t.peek 0x4400#16 == 0x00#8 && t.pc == 0x0203#16)) = true := by
  decide +kernel

/-- 95_test_vectors.md CT5. -/
theorem test_inx_vectors :
    ((after [0xE8#8] [] { base with x := 0xFF#8 } fun t => t.x == 0x00#8 && t.p.n == false && t.p.z == true && t.p.c == false && t.pc == 0x0201#16)) = true := by
  decide +kernel

/-- 95_test_vectors.md CT6. -/
theorem test_dex_vectors :
    ((after [0xCA#8] [] { base with x := 0x00#8 } fun t => t.x == 0xFF#8 && t.p.n == true && t.p.z == false && t.pc == 0x0201#16)) = true := by
  decide +kernel

/-- 95_test_vectors.md CT7. -/
theorem test_iny_vectors :
    ((after [0xC8#8] [] { base with y := 0x7F#8 } fun t => t.y == 0x80#8 && t.p.n == true && t.p.z == false && t.pc == 0x0201#16)) = true := by
  decide +kernel

/-- 95_test_vectors.md CT8. -/
theorem test_dey_vectors :
    ((after [0x88#8] [] { base with y := 0x01#8 } fun t => t.y == 0x00#8 && t.p.n == false && t.p.z == true && t.pc == 0x0201#16)) = true := by
  decide +kernel

/-- 95_test_vectors.md AL1, AL2, AL3, AL4, AL5, AL6, AL7, AL8. -/
theorem test_adc_vectors :
    ((after [0x69#8, 0x01#8] [] { base with a := 0x7F#8, p := { base.p with c := false } } fun t => t.a == 0x80#8 && t.p.n == true && t.p.v == true && t.p.z == false && t.p.c == false && t.pc == 0x0202#16) &&
     (after [0x69#8, 0xFF#8] [] { base with a := 0x81#8, p := { base.p with c := false } } fun t => t.a == 0x80#8 && t.p.n == true && t.p.v == false && t.p.z == false && t.p.c == true && t.pc == 0x0202#16) &&
     (after [0x69#8, 0xFF#8] [] { base with a := 0x01#8, p := { base.p with c := false } } fun t => t.a == 0x00#8 && t.p.n == false && t.p.v == false && t.p.z == true && t.p.c == true && t.pc == 0x0202#16) &&
     (after [0x69#8, 0x00#8] [] { base with a := 0xFF#8, p := { base.p with c := true } } fun t => t.a == 0x00#8 && t.p.n == false && t.p.v == false && t.p.z == true && t.p.c == true && t.pc == 0x0202#16) &&
     (after [0x69#8, 0x80#8] [] { base with a := 0x80#8, p := { base.p with c := false } } fun t => t.a == 0x00#8 && t.p.n == false && t.p.v == true && t.p.z == true && t.p.c == true && t.pc == 0x0202#16) &&
     (after [0x69#8, 0x7F#8] [] { base with a := 0x7F#8, p := { base.p with c := true } } fun t => t.a == 0xFF#8 && t.p.n == true && t.p.v == true && t.p.z == false && t.p.c == false && t.pc == 0x0202#16) &&
     (after [0x69#8, 0x00#8] [] { base with a := 0x00#8, p := { base.p with c := false, n := true, v := true } } fun t => t.p.n == false && t.p.v == false && t.p.z == true && t.p.c == false && t.pc == 0x0202#16) &&
     (after [0x75#8, 0x44#8] [(0x0045#16, 0x20#8)] { base with a := 0x10#8, x := 0x01#8, p := { base.p with c := true } } fun t => t.a == 0x31#8 && t.p.n == false && t.p.v == false && t.p.z == false && t.p.c == false && t.pc == 0x0202#16)) = true := by
  decide +kernel

/-- 95_test_vectors.md AL9, AL10, AL11, AL12, AL13, AL14, AL15. -/
theorem test_sbc_vectors :
    ((after [0xE9#8, 0x01#8] [] { base with a := 0x05#8, p := { base.p with c := true } } fun t => t.a == 0x04#8 && t.p.n == false && t.p.v == false && t.p.z == false && t.p.c == true && t.pc == 0x0202#16) &&
     (after [0xE9#8, 0x01#8] [] { base with a := 0x05#8, p := { base.p with c := false } } fun t => t.a == 0x03#8 && t.p.n == false && t.p.v == false && t.p.z == false && t.p.c == true && t.pc == 0x0202#16) &&
     (after [0xE9#8, 0x01#8] [] { base with a := 0x00#8, p := { base.p with c := true } } fun t => t.a == 0xFF#8 && t.p.n == true && t.p.v == false && t.p.z == false && t.p.c == false && t.pc == 0x0202#16) &&
     (after [0xE9#8, 0x01#8] [] { base with a := 0x80#8, p := { base.p with c := true } } fun t => t.a == 0x7F#8 && t.p.n == false && t.p.v == true && t.p.z == false && t.p.c == true && t.pc == 0x0202#16) &&
     (after [0xE9#8, 0xFF#8] [] { base with a := 0x7F#8, p := { base.p with c := true } } fun t => t.a == 0x80#8 && t.p.n == true && t.p.v == true && t.p.z == false && t.p.c == false && t.pc == 0x0202#16) &&
     (after [0xE9#8, 0x40#8] [] { base with a := 0x40#8, p := { base.p with c := true } } fun t => t.a == 0x00#8 && t.p.n == false && t.p.v == false && t.p.z == true && t.p.c == true && t.pc == 0x0202#16) &&
     (after [0xE9#8, 0x00#8] [] { base with a := 0x00#8, p := { base.p with c := false } } fun t => t.a == 0xFF#8 && t.p.n == true && t.p.v == false && t.p.z == false && t.p.c == false && t.pc == 0x0202#16)) = true := by
  decide +kernel

/-- 95_test_vectors.md AL16, AL17, AL18. -/
theorem test_bit_vectors :
    ((after [0x24#8, 0x44#8] [(0x0044#16, 0xC0#8)] { base with a := 0x3F#8 } fun t => t.p.n == true && t.p.v == true && t.p.z == true && t.pc == 0x0202#16) &&
     (after [0x2C#8, 0x00#8, 0x44#8] [(0x4400#16, 0x60#8)] { base with a := 0xFF#8, p := { base.p with n := true } } fun t => t.p.n == false && t.p.v == true && t.p.z == false && t.pc == 0x0203#16) &&
     (after [0x24#8, 0x44#8] [(0x0044#16, 0x00#8)] { base with a := 0x00#8, p := { base.p with n := true, v := true } } fun t => t.a == 0x00#8 && t.p.n == false && t.p.v == false && t.p.z == true && t.pc == 0x0202#16)) = true := by
  decide +kernel

/-- 95_test_vectors.md AL19, AL20. -/
theorem test_and_vectors :
    ((after [0x29#8, 0x0F#8] [] { base with a := 0xF0#8 } fun t => t.a == 0x00#8 && t.p.n == false && t.p.z == true && t.pc == 0x0202#16) &&
     (after [0x29#8, 0x80#8] [] { base with a := 0xFF#8 } fun t => t.a == 0x80#8 && t.p.n == true && t.p.z == false && t.pc == 0x0202#16)) = true := by
  decide +kernel

/-- 95_test_vectors.md AL21, AL22. -/
theorem test_ora_vectors :
    ((after [0x09#8, 0x80#8] [] { base with a := 0x01#8 } fun t => t.a == 0x81#8 && t.p.n == true && t.p.z == false && t.pc == 0x0202#16) &&
     (after [0x09#8, 0x00#8] [] { base with a := 0x00#8, p := { base.p with n := true } } fun t => t.p.n == false && t.p.z == true && t.pc == 0x0202#16)) = true := by
  decide +kernel

/-- 95_test_vectors.md AL23, AL24. -/
theorem test_eor_vectors :
    ((after [0x49#8, 0xFF#8] [] { base with a := 0x55#8 } fun t => t.a == 0xAA#8 && t.p.n == true && t.p.z == false && t.pc == 0x0202#16) &&
     (after [0x49#8, 0x55#8] [] { base with a := 0x55#8, p := { base.p with c := true, v := true } } fun t => t.a == 0x00#8 && t.p.n == false && t.p.v == true && t.p.z == true && t.p.c == true && t.pc == 0x0202#16)) = true := by
  decide +kernel

/-- 95_test_vectors.md TR1. -/
theorem test_tax_vectors :
    ((after [0xAA#8] [] { base with a := 0x80#8 } fun t => t.x == 0x80#8 && t.p.n == true && t.p.z == false && t.pc == 0x0201#16)) = true := by
  decide +kernel

/-- 95_test_vectors.md TR2. -/
theorem test_txa_vectors :
    ((after [0x8A#8] [] { base with x := 0x00#8, a := 0x55#8 } fun t => t.a == 0x00#8 && t.p.n == false && t.p.z == true && t.pc == 0x0201#16)) = true := by
  decide +kernel

/-- 95_test_vectors.md TR3. -/
theorem test_tay_vectors :
    ((after [0xA8#8] [] { base with a := 0x7F#8 } fun t => t.y == 0x7F#8 && t.p.n == false && t.p.z == false && t.pc == 0x0201#16)) = true := by
  decide +kernel

/-- 95_test_vectors.md TR4. -/
theorem test_tya_vectors :
    ((after [0x98#8] [] { base with y := 0xFF#8 } fun t => t.a == 0xFF#8 && t.p.n == true && t.p.z == false && t.pc == 0x0201#16)) = true := by
  decide +kernel

/-- 95_test_vectors.md TR5, TR6. -/
theorem test_tsx_vectors :
    ((after [0xBA#8] [] { base with sp := 0xFD#8 } fun t => t.x == 0xFD#8 && t.p.n == true && t.p.z == false && t.pc == 0x0201#16) &&
     (after [0xBA#8] [] { base with sp := 0x00#8, x := 0x11#8 } fun t => t.x == 0x00#8 && t.p.n == false && t.p.z == true && t.pc == 0x0201#16)) = true := by
  decide +kernel

/-- 95_test_vectors.md TR7. -/
theorem test_txs_vectors :
    ((after [0x9A#8] [] { base with x := 0x00#8, sp := 0x80#8, p := { base.p with z := false, n := true } } fun t => t.sp == 0x00#8 && t.p.n == true && t.p.z == false && t.pc == 0x0201#16)) = true := by
  decide +kernel

/-- 95_test_vectors.md FL1. -/
theorem test_clc_vectors :
    ((after [0x18#8] [] { base with p := { base.p with n := true, v := true, d := true, i := true, z := true, c := true } } fun t => t.p.c == false && t.pc == 0x0201#16)) = true := by
  decide +kernel

/-- 95_test_vectors.md FL2, FL8. -/
theorem test_sec_vectors :
    ((after [0x38#8] [] base fun t => t.p.c == true && t.pc == 0x0201#16) &&
     (after [0x38#8] [] { base with p := { base.p with c := true } } fun t => t.p.c == true && t.pc == 0x0201#16)) = true := by
  decide +kernel

/-- 95_test_vectors.md FL3. -/
theorem test_cld_vectors :
    ((after [0xD8#8] [] { base with p := { base.p with n := true, v := true, d := true, i := true, z := true, c := true } } fun t => t.p.d == false && t.pc == 0x0201#16)) = true := by
  decide +kernel

/-- 95_test_vectors.md FL4. -/
theorem test_sed_vectors :
    ((after [0xF8#8] [] base fun t => t.p.d == true && t.pc == 0x0201#16)) = true := by
  decide +kernel

/-- 95_test_vectors.md FL5. -/
theorem test_cli_vectors :
    ((after [0x58#8] [] { base with p := { base.p with n := true, v := true, d := true, i := true, z := true, c := true } } fun t => t.p.i == false && t.pc == 0x0201#16)) = true := by
  decide +kernel

/-- 95_test_vectors.md FL6. -/
theorem test_sei_vectors :
    ((after [0x78#8] [] base fun t => t.p.i == true && t.pc == 0x0201#16)) = true := by
  decide +kernel

/-- 95_test_vectors.md FL7. -/
theorem test_clv_vectors :
    ((after [0xB8#8] [] { base with p := { base.p with n := true, v := true, d := true, i := true, z := true, c := true } } fun t => t.p.v == false && t.pc == 0x0201#16)) = true := by
  decide +kernel

/-- 95_test_vectors.md ST1, ST2. -/
theorem test_pha_vectors :
    ((after [0x48#8] [] { base with a := 0x42#8 } fun t => t.sp == 0xFE#8 && t.peek 0x01FF#16 == 0x42#8 && t.pc == 0x0201#16) &&
     (after [0x48#8] [] { base with a := 0x42#8, sp := 0x00#8 } fun t => t.sp == 0xFF#8 && t.peek 0x0100#16 == 0x42#8 && t.pc == 0x0201#16)) = true := by
  decide +kernel

/-- 95_test_vectors.md ST3, ST4. -/
theorem test_pla_vectors :
    ((after [0x68#8] [(0x01FF#16, 0x00#8)] { base with sp := 0xFE#8, a := 0x55#8 } fun t => t.a == 0x00#8 && t.sp == 0xFF#8 && t.p.n == false && t.p.z == true && t.pc == 0x0201#16) &&
     (after [0x68#8] [(0x0100#16, 0x80#8)] { base with sp := 0xFF#8 } fun t => t.a == 0x80#8 && t.sp == 0x00#8 && t.p.n == true && t.p.z == false && t.pc == 0x0201#16)) = true := by
  decide +kernel

/-- 95_test_vectors.md ST5, ST6. -/
theorem test_php_vectors :
    ((after [0x08#8] [] { base with p := { base.p with n := true, i := true, c := true } } fun t => t.sp == 0xFE#8 && t.peek 0x01FF#16 == 0xB5#8 && t.pc == 0x0201#16) &&
     (after [0x08#8] [] base fun t => t.sp == 0xFE#8 && t.peek 0x01FF#16 == 0x30#8 && t.pc == 0x0201#16)) = true := by
  decide +kernel

/-- 95_test_vectors.md ST7, ST8. -/
theorem test_plp_vectors :
    ((after [0x28#8] [(0x01FF#16, 0xFF#8)] { base with sp := 0xFE#8 } fun t => t.sp == 0xFF#8 && t.p.n == true && t.p.v == true && t.p.d == true && t.p.i == true && t.p.z == true && t.p.c == true && t.pc == 0x0201#16) &&
     (after [0x28#8] [(0x01FF#16, 0x30#8)] { base with sp := 0xFE#8, p := { base.p with n := true, v := true, d := true, i := true, z := true, c := true } } fun t => t.sp == 0xFF#8 && t.p.n == false && t.p.v == false && t.p.d == false && t.p.i == false && t.p.z == false && t.p.c == false && t.pc == 0x0201#16)) = true := by
  decide +kernel

/-- 95_test_vectors.md ST9. -/
theorem test_nop_vectors :
    ((after [0xEA#8] [] base fun t => t.pc == 0x0201#16)) = true := by
  decide +kernel

/-- 95_test_vectors.md ST10, ST11. -/
theorem test_brk_vectors :
    ((after [0x00#8] [(0xFFFE#16, 0x00#8), (0xFFFF#16, 0x90#8)] { base with p := { base.p with z := true, c := true } } fun t => t.sp == 0xFC#8 && t.p.i == true && t.peek 0x01FD#16 == 0x33#8 && t.peek 0x01FE#16 == 0x02#8 && t.peek 0x01FF#16 == 0x02#8 && t.pc == 0x9000#16) &&
     (after [0x00#8] [(0xFFFE#16, 0x34#8), (0xFFFF#16, 0x12#8)] { base with sp := 0x01#8, pc := 0x02FF#16, p := { base.p with i := true, d := true } } fun t => t.sp == 0xFE#8 && t.peek 0x0100#16 == 0x01#8 && t.peek 0x0101#16 == 0x03#8 && t.peek 0x01FF#16 == 0x3C#8 && t.pc == 0x1234#16)) = true := by
  decide +kernel

/-- 95_test_vectors.md DM1, DM2, DM3, DM4, DM5, DM6, DM7, DM8, DM9: what `BcdValid` requires of A and C. -/
theorem test_adc_decimal :
    ((after [0x69#8, 0x01#8] [] { base with a := 0x09#8, p := { base.p with d := true, c := false } } fun t => t.a == 0x10#8 && t.p.c == false && t.pc == 0x0202#16) &&
     (after [0x69#8, 0x01#8] [] { base with a := 0x99#8, p := { base.p with d := true, c := false } } fun t => t.a == 0x00#8 && t.p.c == true && t.pc == 0x0202#16) &&
     (after [0x69#8, 0x46#8] [] { base with a := 0x58#8, p := { base.p with d := true, c := true } } fun t => t.a == 0x05#8 && t.p.c == true && t.pc == 0x0202#16) &&
     (after [0x69#8, 0x46#8] [] { base with a := 0x58#8, p := { base.p with d := true, c := false } } fun t => t.a == 0x04#8 && t.p.c == true && t.pc == 0x0202#16) &&
     (after [0x69#8, 0x34#8] [] { base with a := 0x12#8, p := { base.p with d := true, c := false } } fun t => t.a == 0x46#8 && t.p.c == false && t.pc == 0x0202#16) &&
     (after [0x69#8, 0x99#8] [] { base with a := 0x99#8, p := { base.p with d := true, c := true } } fun t => t.a == 0x99#8 && t.p.c == true && t.pc == 0x0202#16) &&
     (after [0x69#8, 0x00#8] [] { base with a := 0x00#8, p := { base.p with d := true, c := false } } fun t => t.a == 0x00#8 && t.p.c == false && t.pc == 0x0202#16) &&
     (after [0x69#8, 0x50#8] [] { base with a := 0x50#8, p := { base.p with d := true, c := false } } fun t => t.a == 0x00#8 && t.p.c == true && t.pc == 0x0202#16) &&
     (after [0x69#8, 0x00#8] [] { base with a := 0x79#8, p := { base.p with d := true, c := true } } fun t => t.a == 0x80#8 && t.p.c == false && t.pc == 0x0202#16)) = true := by
  decide +kernel

/-- 95_test_vectors.md DM10, DM11, DM12, DM13, DM14, DM15, DM16, DM17, DM18, DM19: what `BcdValid` requires of A and C. -/
theorem test_sbc_decimal :
    ((after [0xE9#8, 0x12#8] [] { base with a := 0x46#8, p := { base.p with d := true, c := true } } fun t => t.a == 0x34#8 && t.p.c == true && t.pc == 0x0202#16) &&
     (after [0xE9#8, 0x13#8] [] { base with a := 0x40#8, p := { base.p with d := true, c := true } } fun t => t.a == 0x27#8 && t.p.c == true && t.pc == 0x0202#16) &&
     (after [0xE9#8, 0x02#8] [] { base with a := 0x32#8, p := { base.p with d := true, c := false } } fun t => t.a == 0x29#8 && t.p.c == true && t.pc == 0x0202#16) &&
     (after [0xE9#8, 0x21#8] [] { base with a := 0x12#8, p := { base.p with d := true, c := true } } fun t => t.a == 0x91#8 && t.p.c == false && t.pc == 0x0202#16) &&
     (after [0xE9#8, 0x01#8] [] { base with a := 0x00#8, p := { base.p with d := true, c := true } } fun t => t.a == 0x99#8 && t.p.c == false && t.pc == 0x0202#16) &&
     (after [0xE9#8, 0x34#8] [] { base with a := 0x21#8, p := { base.p with d := true, c := true } } fun t => t.a == 0x87#8 && t.p.c == false && t.pc == 0x0202#16) &&
     (after [0xE9#8, 0x00#8] [] { base with a := 0x00#8, p := { base.p with d := true, c := false } } fun t => t.a == 0x99#8 && t.p.c == false && t.pc == 0x0202#16) &&
     (after [0xE9#8, 0x01#8] [] { base with a := 0x10#8, p := { base.p with d := true, c := true } } fun t => t.a == 0x09#8 && t.p.c == true && t.pc == 0x0202#16) &&
     (after [0xE9#8, 0x99#8] [] { base with a := 0x99#8, p := { base.p with d := true, c := true } } fun t => t.a == 0x00#8 && t.p.c == true && t.pc == 0x0202#16) &&
     (after [0xE9#8, 0x50#8] [] { base with a := 0x50#8, p := { base.p with d := true, c := false } } fun t => t.a == 0x99#8 && t.p.c == false && t.pc == 0x0202#16)) = true := by
  decide +kernel

/-- 95_test_vectors.md DM1 to DM25, the columns of the NMOS reference instance. -/
theorem test_decimal_reference :
    (decide (nmosAdc 0x09#8 0x01#8 false = ⟨0x10#8, false, false, false, false⟩) &&
     decide (nmosAdc 0x99#8 0x01#8 false = ⟨0x00#8, true, true, false, false⟩) &&
     decide (nmosAdc 0x58#8 0x46#8 true = ⟨0x05#8, true, true, true, false⟩) &&
     decide (nmosAdc 0x58#8 0x46#8 false = ⟨0x04#8, true, true, true, false⟩) &&
     decide (nmosAdc 0x12#8 0x34#8 false = ⟨0x46#8, false, false, false, false⟩) &&
     decide (nmosAdc 0x99#8 0x99#8 true = ⟨0x99#8, true, false, true, false⟩) &&
     decide (nmosAdc 0x00#8 0x00#8 false = ⟨0x00#8, false, false, false, true⟩) &&
     decide (nmosAdc 0x50#8 0x50#8 false = ⟨0x00#8, true, true, true, false⟩) &&
     decide (nmosAdc 0x79#8 0x00#8 true = ⟨0x80#8, false, true, true, false⟩) &&
     decide (nmosSbc 0x46#8 0x12#8 true = ⟨0x34#8, true, false, false, false⟩) &&
     decide (nmosSbc 0x40#8 0x13#8 true = ⟨0x27#8, true, false, false, false⟩) &&
     decide (nmosSbc 0x32#8 0x02#8 false = ⟨0x29#8, true, false, false, false⟩) &&
     decide (nmosSbc 0x12#8 0x21#8 true = ⟨0x91#8, false, true, false, false⟩) &&
     decide (nmosSbc 0x00#8 0x01#8 true = ⟨0x99#8, false, true, false, false⟩) &&
     decide (nmosSbc 0x21#8 0x34#8 true = ⟨0x87#8, false, true, false, false⟩) &&
     decide (nmosSbc 0x00#8 0x00#8 false = ⟨0x99#8, false, true, false, false⟩) &&
     decide (nmosSbc 0x10#8 0x01#8 true = ⟨0x09#8, true, false, false, false⟩) &&
     decide (nmosSbc 0x99#8 0x99#8 true = ⟨0x00#8, true, false, false, true⟩) &&
     decide (nmosSbc 0x50#8 0x50#8 false = ⟨0x99#8, false, true, false, false⟩) &&
     decide (nmosAdc 0x0A#8 0x00#8 false = ⟨0x10#8, false, false, false, false⟩) &&
     decide (nmosAdc 0x0F#8 0x0F#8 false = ⟨0x14#8, false, false, false, false⟩) &&
     decide (nmosAdc 0x9A#8 0x01#8 false = ⟨0x01#8, true, true, false, false⟩) &&
     decide (nmosAdc 0xFF#8 0xFF#8 true = ⟨0x55#8, true, true, false, false⟩) &&
     decide (nmosSbc 0x0A#8 0x00#8 true = ⟨0x0A#8, true, false, false, false⟩) &&
     decide (nmosSbc 0x00#8 0x0F#8 true = ⟨0x9B#8, false, true, false, false⟩)) = true := by
  decide +kernel

/-- 95_test_vectors.md IL1 to IL6. -/
theorem test_unlisted_refused :
    ([0x02#8, 0x1A#8, 0x80#8, 0xEB#8, 0xFF#8, 0x9C#8].all fun b =>
      match step (base.setMem (stored [(0x0200#16, b)] [])) with
      | .refused r => decide (r = .illegalOpcode b 0x0200#16)
      | _ => false) = true := by decide +kernel

/-! ### Interrupts and reset (95_test_vectors.md 2.13) -/

/-- The vectors of section 2.13. -/
def vectors : List (Addr × Byte) :=
  [(0xFFFB#16, 0x80#8), (0xFFFD#16, 0xC0#8), (0xFFFF#16, 0x90#8)]

/-- IN1, IN2, IN7, IN9. -/
theorem test_irq_entry :
    ((after [0xEA#8] vectors { base with pc := 0x0203#16, p := { base.p with n := true, d := true, c := true }, env := [⟨true, false, false⟩] } fun t =>
        t.peek 0x01FF#16 == 0x02#8 && t.peek 0x01FE#16 == 0x03#8 && t.peek 0x01FD#16 == 0xA9#8 && t.sp == 0xFC#8 && t.p.i && t.p.d && t.pc == 0x9000#16) &&
     (after [0xEA#8] vectors { base with pc := 0x0203#16, p := { base.p with i := true }, env := [⟨true, false, false⟩] } fun t => t.pc == 0x0204#16) &&
     (after [0xEA#8] vectors { base with pc := 0x12FF#16, sp := 0x01#8, env := [⟨true, false, false⟩] } fun t =>
        t.peek 0x0101#16 == 0x12#8 && t.peek 0x0100#16 == 0xFF#8 && t.peek 0x01FF#16 == 0x20#8 && t.sp == 0xFE#8 && t.p.i && t.pc == 0x9000#16) &&
     (after [0xEA#8] vectors { base with pc := 0x0203#16 } fun t => t.pc == 0x0204#16)) = true := by decide +kernel

/-- IN3, IN4, IN5, IN8. -/
theorem test_nmi_entry :
    ((after [0xEA#8] vectors { base with pc := 0x0203#16, p := { base.p with n := true, d := true, c := true }, env := [⟨false, true, false⟩] } fun t =>
        t.peek 0x01FD#16 == 0xA9#8 && t.sp == 0xFC#8 && t.p.i && t.pc == 0x8000#16 && !t.nmiPending) &&
     (after [0xEA#8] vectors { base with pc := 0x0203#16, p := { base.p with v := true, z := true, i := true }, env := [⟨false, true, false⟩] } fun t =>
        t.peek 0x01FD#16 == 0x66#8 && t.pc == 0x8000#16) &&
     (after [0xEA#8] vectors { base with pc := 0x0203#16, env := [⟨true, true, false⟩] } fun t => t.peek 0x01FD#16 == 0x20#8 && t.p.i && t.pc == 0x8000#16) &&
     (after [0xEA#8] vectors { base with pc := 0x0203#16, nmiPending := true } fun t => t.pc == 0x8000#16)) = true := by decide +kernel

/-- IN6: what a reset fixes. -/
theorem test_reset_entry :
    (after [0xEA#8] vectors { base with pc := 0x0203#16, env := [⟨true, true, true⟩] } fun t =>
      t.p.i && !t.nmiPending && t.pc == 0xC000#16 && t.peek 0x01FF#16 == 0x00#8) = true := by decide +kernel

/-- P7: after a CLI the IRQ decision uses the I before or the I after, as a free bit says. -/
theorem test_poll_after_cli :
    iPoll { base with iBefore := some true } = ((if Config.freeBit 0 then true else false), { base with iBefore := some true, draws := 1 }) := by
  rfl

/-! ### Region kinds (95_test_vectors.md 2.14) -/

/-- The map of section 2.14. -/
def map214 : BusMap :=
  [⟨0x8000, 0xBFFF, .unmapped⟩, ⟨0xD000, 0xDFFF, .io⟩, ⟨0xC000, 0xCFFF, .rom⟩, ⟨0xE000, 0xFFFF, .rom⟩]

/-- BU1, BU2, BU3, BU5, BU7. -/
theorem test_region_kinds :
    ((after [0x8D#8, 0x00#8, 0xE0#8] [(0xE000#16, 0x7F#8)] { base with a := 0x11#8, bus := map214 } fun t => t.peek 0xE000#16 == 0x7F#8 && t.pc == 0x0203#16) &&
     (after [0xAD#8, 0x00#8, 0xE0#8] [(0xE000#16, 0x7F#8)] { base with bus := map214 } fun t => t.a == 0x7F#8 && !t.p.n && !t.p.z) &&
     (after [0xEE#8, 0x00#8, 0xE0#8] [(0xE000#16, 0x7F#8)] { base with bus := map214 } fun t => t.p.n && !t.p.z && t.peek 0xE000#16 == 0x7F#8) &&
     (after [0x8D#8, 0x00#8, 0xD0#8] [] { base with a := 0x11#8, bus := map214 } fun t => t.ioTrace == [.write 0xD000#16 0x11#8] && t.peek 0xD000#16 == 0x00#8) &&
     (after [0x8D#8, 0x00#8, 0x80#8] [] { base with a := 0x11#8, bus := map214 } fun t => t.peek 0x8000#16 == 0x00#8 && t.ioTrace == [])) = true := by
  decide +kernel

/-- BU4, BU8: the value is drawn, the environment sees one read. -/
theorem test_io_read :
    memRead 0xD000#16 { base with bus := map214 } =
      (Config.freeByte 0, { base with bus := map214, draws := 1, ioTrace := [.read 0xD000#16 (Config.freeByte 0)] }) := by rfl

/-! ### Times, text, reset, and the host's two definitions -/

/-- 30_encoding.md R96, column time, by rising opcode byte. -/
def timeColumn : List Nat :=
  [7, 6, 3, 5, 3, 2, 2, 4, 6, 3, 5, 4, 6, 2, 4, 4, 7, 6, 6, 3, 3, 5, 4, 2, 2,
   4, 4, 6, 3, 5, 4, 6, 2, 4, 4, 7, 6, 6, 3, 5, 3, 2, 2, 3, 4, 6, 3, 5, 4, 6,
   2, 4, 4, 7, 6, 6, 3, 5, 4, 2, 2, 5, 4, 6, 3, 5, 4, 6, 2, 4, 4, 7, 6, 3, 3,
   3, 2, 2, 4, 4, 4, 3, 6, 4, 4, 4, 2, 5, 2, 5, 2, 6, 2, 3, 3, 3, 2, 2, 2, 4,
   4, 4, 3, 5, 4, 4, 4, 2, 4, 2, 4, 4, 4, 2, 6, 3, 3, 5, 2, 2, 2, 4, 4, 6, 3,
   5, 4, 6, 2, 4, 4, 7, 2, 6, 3, 3, 5, 2, 2, 2, 4, 4, 6, 3, 5, 4, 6, 2, 4, 4,
   7]

theorem test_time_column :
    ((List.range 256).flatMap fun n =>
      match decode [BitVec.ofNat 8 n, 0x00#8, 0x00#8] with
      | .ok (i, _) => [instrTime i]
      | .error _ => []) = timeColumn := by decide +kernel

/-- R351, R352: `LDA $44F0,X` with X = $0F and $10; `B0 02` at $10FC taken and not. -/
theorem test_cycles :
    cycles (.ldaAbx 0x44F0#16) { base with x := 0x0F#8 } = 4 ∧ cycles (.ldaAbx 0x44F0#16) { base with x := 0x10#8 } = 5 ∧
    cycles (.bcs 0x02#8) { base with pc := 0x10FC#16, p := { base.p with c := true } } = 4 ∧
    cycles (.bcs 0x02#8) { base with pc := 0x10FC#16 } = 2 := by decide +kernel

/-- E13. -/
theorem test_text :
    instrText 0x0000#16 (.ldaIzy 0x44#8) = "LDA ($44),Y" ∧ instrText 0x43F0#16 (.bpl 0x0E#8) = "BPL $4400" ∧
    instrText 0x0000#16 .aslAcc = "ASL A" := by decide +kernel

/-- The pc after reset is what the reset vector holds (10_state.md R38). -/
theorem test_reset_pc : (read16 resetVector State.reset).1 = State.reset.pc := by decide +kernel

theorem test_reset_canonical : State.reset.mem.wf = true := by decide

/-- The word placed is the instruction the very next step runs: `E6 44` at reset. -/
theorem test_fetch_word_runs :
    (match step (State.reset.withFetchWord 16 0x44E6) with
     | .next t => t.peek 0x0044#16 == 0x01#8 && t.pc == 0x0002#16
     | _ => false) = true := by decide +kernel

/-- R354: a run of two NOPs ends at the address the harness chose. -/
theorem test_run_halts :
    (match runUntil (fun s => s.pc == 0x0202#16) 3 { base with mem := stored [(0x0200#16, 0xEA#8), (0x0201#16, 0xEA#8)] [] } with
     | .halted t => t.pc == 0x0202#16
     | _ => false) = true := by decide +kernel

/-! ### Witnesses: for each statement with hypotheses, a state and operands that meet them -/

/-- A state ready to run `bytes` at $0200, in flat `ram`. -/
def ready (bytes : List (Addr × Byte)) : State := base.setMem (stored bytes [])

/-- A map with an address of each kind but `ram`. -/
def mixedMap : BusMap := [⟨0xC000, 0xC000, .rom⟩, ⟨0xD000, 0xD000, .io⟩, ⟨0x8000, 0x8000, .unmapped⟩]

theorem test_witness_decodeOfEncode : (Instr.ldaAbs 0xFFFF#16).wf = true ∧ Instr.brk.wf = true := by decide

theorem test_witness_encodeOfDecode :
    decode [0xAD#8, 0x34#8, 0x12#8, 0xEA#8] = .ok (.ldaAbs 0x1234#16, [0xEA#8]) := by rfl

theorem test_witness_branchDisplacement :
    branchReaches 0x0200#16 0x0281#16 = true ∧ branchReaches 0x0200#16 0x0182#16 = true ∧
    branchReaches 0x0200#16 0x0282#16 = false ∧ branchReaches 0x0200#16 0x0181#16 = false := by decide

theorem test_witness_regionKinds :
    { base with bus := mixedMap }.kindAt 0xC001#16 = .ram ∧ { base with bus := mixedMap }.kindAt 0xC000#16 = .rom ∧
    { base with bus := mixedMap }.kindAt 0xD000#16 = .io ∧ { base with bus := mixedMap }.kindAt 0x8000#16 = .unmapped := by decide

theorem test_witness_equalContents :
    Memory.wf [(0, 0x01#8), (65535, 0x02#8)] = true ∧ ∀ k, Memory.read [(0, 0x01#8), (65535, 0x02#8)] k = Memory.read [(0, 0x01#8), (65535, 0x02#8)] k :=
  ⟨by decide, fun _ => rfl⟩

/-- The pointers at the ends of their ranges: $FFFF, $00FF, $30FF, and the stack locations that wrap. -/
theorem test_witness_storedPointers :
    Stored base 0xFFFF#16 ∧ Stored base (0xFFFF#16 + 1) ∧ Stored base (zeroPage 0xFF#8) ∧ Stored base (zeroPage (0xFF#8 + 1)) ∧
    Stored base 0x30FF#16 ∧ Stored base (nextInPage 0x30FF#16) ∧ Stored base (mkAddr (hiByte 0x30FF#16) (loByte 0x30FF#16 + 1)) ∧
    Stored base (stackAddr (base.sp + 1)) ∧ Stored base (stackAddr (base.sp + 2)) ∧ Stored base (stackAddr (base.sp + 3)) ∧
    Stored base (zeroPage (0xFF#8 + base.x)) ∧ Stored base (zeroPage (0xFF#8 + base.x + 1)) :=
  ⟨rfl, rfl, rfl, rfl, rfl, rfl, rfl, rfl, rfl, rfl, rfl, rfl⟩

theorem test_witness_mnemonics :
    (Instr.ldaIzy 0xFF#8).mnemonic = .lda ∧ (Instr.ldxZpy 0xFF#8).mnemonic = .ldx ∧ (Instr.ldyAbx 0xFFFF#16).mnemonic = .ldy ∧
    (Instr.staIzx 0xFF#8).mnemonic = .sta ∧ (Instr.stxZpy 0xFF#8).mnemonic = .stx ∧ (Instr.styZpx 0xFF#8).mnemonic = .sty ∧
    (Instr.cmpImm 0x00#8).mnemonic = .cmp ∧ (Instr.cpxAbs 0x0000#16).mnemonic = .cpx ∧ (Instr.cpyZp 0x00#8).mnemonic = .cpy ∧
    Instr.aslAcc.mnemonic ∈ [Mnemonic.asl, .lsr, .rol, .ror] ∧ (Instr.rorAbx 0xFFFF#16).mnemonic ∈ [Mnemonic.asl, .lsr, .rol, .ror] ∧
    (Instr.incZpx 0xFF#8).mnemonic = .inc ∧ (Instr.decAbx 0xFFFF#16).mnemonic = .dec ∧ (Instr.bitAbs 0x0000#16).mnemonic = .bit ∧
    (Instr.andImm 0x0F#8).mnemonic ∈ [Mnemonic.and, .ora, .eor] := by decide

/-- Both modes of ADC and SBC, with packed BCD operands at the end of their range. -/
theorem test_witness_arithmetic :
    (Instr.adcImm 0x99#8).mnemonic = .adc ∧ (Instr.sbcImm 0x99#8).mnemonic = .sbc ∧ base.p.d = false ∧
    { base with a := 0x99#8, p := { base.p with d := true } }.p.d = true ∧
    isBcd { base with a := 0x99#8, p := { base.p with d := true } }.a = true ∧
    isBcd (readSource (.imm 0x99#8) { base with a := 0x99#8, p := { base.p with d := true } }).1 = true := by decide

theorem test_witness_pushes : (Instr.pha = .pha ∧ base.a = base.a) ∧ (Instr.php = .php ∧ base.p.pack true = base.p.pack true) := by decide

theorem test_witness_stepRuns :
    QuietBoundary (ready [(0x0200#16, 0xAD#8), (0x0201#16, 0x34#8), (0x0202#16, 0x12#8)]) ∧ (Instr.ldaAbs 0x1234#16).wf = true ∧
    ∀ (k : Nat) (b : Byte), (encode (.ldaAbs 0x1234#16))[k]? = some b →
      Stored (ready [(0x0200#16, 0xAD#8), (0x0201#16, 0x34#8), (0x0202#16, 0x12#8)]) (0x0200#16 + BitVec.ofNat 16 k) ∧
      (ready [(0x0200#16, 0xAD#8), (0x0201#16, 0x34#8), (0x0202#16, 0x12#8)]).peek (0x0200#16 + BitVec.ofNat 16 k) = b := by
  refine ⟨rfl, rfl, fun k b h => ⟨rfl, ?_⟩⟩
  match k, h with
  | 0, h => exact (by decide +kernel : _ = 0xAD#8).trans (Option.some.inj h)
  | 1, h => exact (by decide +kernel : _ = 0x34#8).trans (Option.some.inj h)
  | 2, h => exact (by decide +kernel : _ = 0x12#8).trans (Option.some.inj h)

theorem test_witness_opcodeBytes :
    QuietBoundary (ready [(0x0200#16, 0xFF#8)]) ∧ (memRead 0x0200#16 (boundary (ready [(0x0200#16, 0xFF#8)])).2).1 ∈ unlistedBytes ∧
    QuietBoundary (ready [(0x0200#16, 0xFE#8)]) ∧ (memRead 0x0200#16 (boundary (ready [(0x0200#16, 0xFE#8)])).2).1 ∉ unlistedBytes :=
  ⟨rfl, by decide +kernel, rfl, by decide +kernel⟩

/-- No request: the list's next inputs quiet, and none left with a quiet end. -/
theorem test_witness_noRequest :
    NoRequest base ∧ NoRequest { base with env := [Inputs.quiet], envEnd := .free } := ⟨⟨rfl, rfl, rfl, rfl⟩, ⟨rfl, rfl, rfl, rfl⟩⟩

/-- R317: past the end of the list the inputs are free after reset, and withFetchWord makes the next boundary alone quiet. -/
theorem test_inputs_after_reset :
    takeInputs State.reset = drawInputs State.reset ∧ (State.reset.withFetchWord 8 0xEA).inputs = Inputs.quiet ∧
    (State.reset.withFetchWord 8 0xEA).envEnd = .free := ⟨rfl, rfl, rfl⟩

/-- An IRQ waiting, with I clear, with I set, and after a CLI and a SEI. -/
theorem test_witness_irq :
    let e : Inputs := ⟨true, false, false⟩
    e.irqLine = true ∧ e.nmiEdge = false ∧ e.resetLine = false ∧ base.nmiPending = false ∧ base.iBefore = none ∧ base.p.i = false ∧
    { base with env := [e] }.env = e :: [] ∧ { base with env := [e], p := { base.p with i := true } }.p.i = true ∧
    { base with env := [e], iBefore := some false }.iBefore = some false ∧
    { base with env := [e], iBefore := some true, p := { base.p with i := true } }.iBefore = some true ∧
    { base with env := [Inputs.quiet] }.env = Inputs.quiet :: [] ∧ Inputs.quiet.irqLine = false := by decide

theorem test_witness_nmiAndReset :
    { base with env := [⟨true, true, false⟩] }.inputs.resetLine = false ∧
    ({ base with env := [⟨true, true, false⟩] }.nmiPending || { base with env := [⟨true, true, false⟩] }.inputs.nmiEdge) = true ∧
    ({ base with nmiPending := true }.nmiPending || { base with nmiPending := true }.inputs.nmiEdge) = true ∧
    { base with env := [⟨true, true, true⟩] }.inputs.resetLine = true ∧
    Stored { base with env := [⟨true, true, true⟩] } 0xFFFC#16 ∧ Stored { base with env := [⟨true, true, true⟩] } 0xFFFD#16 :=
  ⟨rfl, rfl, rfl, rfl, rfl, rfl⟩

/-- A state that meets the invariant and steps, with an address that is not `ram`. -/
theorem test_witness_steps :
    Safety.Inv (ready [(0x0200#16, 0xEA#8)]) ∧ (∃ t, step (ready [(0x0200#16, 0xEA#8)]) = .next t) ∧
    (∃ t, step { ready [(0x0200#16, 0xEA#8)] with bus := mixedMap } = .next t) ∧
    { ready [(0x0200#16, 0xEA#8)] with bus := mixedMap }.kindAt 0xC000#16 ≠ .ram ∧ IoFree (ready [(0x0200#16, 0xEA#8)]) :=
  ⟨by unfold Safety.Inv; decide +kernel, ⟨_, rfl⟩, ⟨_, rfl⟩, by decide, fun _ h => nomatch h⟩

/-- An instruction that leaves each part of the state alone. -/
theorem test_witness_writes :
    (∃ t, exec .nop base = .next t) ∧ writesOf .nop = Writes.none ∧ (∃ t, exec (.ldaImm 0x00#8) base = .next t) ∧
    Mnemonic.lda ∉ [Mnemonic.bpl, .bmi, .bvc, .bvs, .bcc, .bcs, .bne, .beq, .jmp, .jsr, .rts, .rti, .brk] ∧
    Mnemonic.lda ∉ [Mnemonic.adc, .sbc, .php, .plp, .rti, .brk, .cld, .sed] :=
  ⟨⟨_, rfl⟩, rfl, ⟨_, rfl⟩, by decide, by decide⟩

/-- A step that changes V. -/
theorem test_witness_overflow :
    (match step { ready [(0x0200#16, 0xB8#8)] with p := { base.p with v := true } } with
     | .next t => decide (t.p.v ≠ true)
     | _ => false) = true := by decide +kernel

/-- A stack instruction in page one, and an entry with an address outside page one. -/
theorem test_witness_pageOne :
    Instr.brk.mnemonic ∈ [Mnemonic.pha, .php, .pla, .plp, .jsr, .rts, .rti, .brk] ∧ (∃ t, exec .brk base = .next t) ∧
    hiByte 0x0200#16 ≠ 0x01#8 ∧ (boundary { base with nmiPending := true }).1 ≠ .instruction ∧
    (∃ t, step { base with nmiPending := true } = .next t) :=
  ⟨by decide, ⟨_, rfl⟩, by decide, by decide, ⟨_, rfl⟩⟩

theorem test_witness_stack : base.kindAt (stackAddr base.sp) = .ram ∧ base.kindAt (stackAddr (base.sp - 1)) = .ram := ⟨rfl, rfl⟩

/-- The state a BRK's entry leaves, and a handler that changed A, the flags, pc and a byte outside the three pushed ones. -/
def entered : State := enterInterrupt 0x0202#16 true irqVector base

theorem test_witness_rti :
    EntryEffect 0x0202#16 true irqVector base entered ∧
    (∀ k ∈ [base.sp, base.sp - 1, base.sp - 2],
      base.kindAt (stackAddr k) = .ram ∧
      Stored { memWrite 0x0300#16 0x55#8 entered with a := 0x77#8, p := base.p, pc := 0x9010#16 } (stackAddr k) ∧
      State.peek { memWrite 0x0300#16 0x55#8 entered with a := 0x77#8, p := base.p, pc := 0x9010#16 } (stackAddr k) =
        entered.peek (stackAddr k)) ∧
    State.sp { memWrite 0x0300#16 0x55#8 entered with a := 0x77#8, p := base.p, pc := 0x9010#16 } = entered.sp := by
  refine ⟨⟨{ entered with pc := base.pc }, fun b => ?_, ?_, ?_, fun _ => ?_⟩, ?_, ?_⟩
  · have e : State.peek { entered with pc := base.pc } b = (push (base.p.pack true) (pushAddr 0x0202#16 base)).peek b :=
      State.peek_congr _ _ rfl b
    rw [e]
    simp only [pushAddr, peek_push]
    rfl
  · rfl
  · rfl
  · rfl
  · intro k hk
    simp only [List.mem_cons, List.not_mem_nil, or_false] at hk
    rcases hk with rfl | rfl | rfl <;> exact ⟨rfl, rfl, by decide +kernel⟩
  · rfl

/-- `8E 03 02` at $0200 stores X = $A9 at $0203, before a stored $44: the next instruction is `LDA #$44`. -/
theorem test_witness_selfStore :
    let s : State := { ready [(0x0204#16, 0x44#8)] with x := 0xA9#8 }
    (Instr.stxAbs 0x0203#16).mnemonic = .stx ∧ memOf (.stxAbs 0x0203#16) = some (.abs 0x0203#16) ∧
    (effAddr (.abs 0x0203#16) s).1 = s.pc + BitVec.ofNat 16 (Instr.stxAbs 0x0203#16).length ∧
    s.kindAt (effAddr (.abs 0x0203#16) s).1 = .ram ∧ (Instr.ldaImm 0x44#8).opcode = s.x ∧
    ∀ (k : Nat) (b : Byte), (encode (.ldaImm 0x44#8))[k + 1]? = some b →
      Stored s ((effAddr (.abs 0x0203#16) s).1 + BitVec.ofNat 16 (k + 1)) ∧
      s.peek ((effAddr (.abs 0x0203#16) s).1 + BitVec.ofNat 16 (k + 1)) = b := by
  refine ⟨rfl, rfl, by decide, rfl, rfl, fun k b h => ⟨rfl, ?_⟩⟩
  match k, h with
  | 0, h => exact (by decide +kernel : _ = 0x44#8).trans (Option.some.inj h)

/-- A shift's and a counter's location, in `ram` and in `io`. -/
theorem test_witness_readModifyWrite :
    { base with bus := mixedMap }.kindAt (effAddr (.abs 0xD001#16) { base with bus := mixedMap }).1 ≠ .io ∧
    { base with bus := mixedMap }.kindAt (effAddr (.abs 0xD000#16) { base with bus := mixedMap }).1 = .io := by decide

theorem test_witness_times :
    Instr.nop.mode ∉ [Mode.rel, .abx, .aby, .izy] ∧ accessClass (Instr.staAbx 0xFFFF#16).mnemonic ≠ .read ∧
    accessClass (Instr.staAbx 0xFFFF#16).mnemonic ≠ .branch := by decide

/-- R353: whose `io` accesses a claim may count. -/
theorem test_ioAccessesClaimed :
    [Instr.ldaAbs 0xD000#16, .staZp 0x01#8, .jmpInd 0xD000#16, .nop].map ioAccessesClaimed = [true, true, true, true] ∧
    [Instr.ldaAbx 0xD000#16, .staIzy 0x01#8, .incAbs 0xD000#16, .pha, .jsrAbs 0xD000#16, .bne 0x01#8].map ioAccessesClaimed =
      [false, false, false, false, false, false] := by decide

/-- A run that is halted at its start, in a state that meets the invariant. -/
theorem test_witness_halted : runUntil (fun s => s.pc == 0x0200#16) 0 base = .halted base ∧ Safety.Inv base := 
  ⟨by rfl, by unfold Safety.Inv; decide⟩

end Sys2Proof.Tests
end

section
/-! SUPPORT. What every instruction means, said once: `exec` always answers a next state, made by one of the shared operations from the
instruction's own operand. A claim about all 151 constructors is then a case split over the meanings. -/

namespace Sys2Proof.Machine

open Sys2Proof.Safety

/-- `Meaning i f`: running `i` is the state change `f` (`exec_meaning`). -/
inductive Meaning : Instr → (State → State) → Prop
  -- 40_load_store.md
  | lda {i src} (mn : i.mnemonic = .lda) (op : sourceOf i = some src) : Meaning i (loadA src)
  | ldx {i src} (mn : i.mnemonic = .ldx) (op : sourceOf i = some src) : Meaning i (loadX src)
  | ldy {i src} (mn : i.mnemonic = .ldy) (op : sourceOf i = some src) : Meaning i (loadY src)
  | sta {i m} (mn : i.mnemonic = .sta) (op : i.operand = .mem m) : Meaning i fun s => storeByte s.a m s
  | stx {i m} (mn : i.mnemonic = .stx) (op : i.operand = .mem m) : Meaning i fun s => storeByte s.x m s
  | sty {i m} (mn : i.mnemonic = .sty) (op : i.operand = .mem m) : Meaning i fun s => storeByte s.y m s
  -- 41_compare.md
  | cmp {i src} (mn : i.mnemonic = .cmp) (op : sourceOf i = some src) : Meaning i fun s => compareWith s.a src s
  | cpx {i src} (mn : i.mnemonic = .cpx) (op : sourceOf i = some src) : Meaning i fun s => compareWith s.x src s
  | cpy {i src} (mn : i.mnemonic = .cpy) (op : sourceOf i = some src) : Meaning i fun s => compareWith s.y src s
  -- 42_branch.md
  | branch {i d} (cls : accessClass i.mnemonic = .branch) (op : i.operand = .rel d) :
    Meaning i fun s => branch (branchCondition i.mnemonic s.p) d s
  -- 43_shift_rotate.md
  | aslAcc : Meaning .aslAcc (shiftBy aslFn .acc)
  | lsrAcc : Meaning .lsrAcc (shiftBy lsrFn .acc)
  | rolAcc : Meaning .rolAcc (shiftBy rolFn .acc)
  | rorAcc : Meaning .rorAcc (shiftBy rorFn .acc)
  | aslMem {i m} (mn : i.mnemonic = .asl) (op : i.operand = .mem m) : Meaning i (shiftBy aslFn (.mem m))
  | lsrMem {i m} (mn : i.mnemonic = .lsr) (op : i.operand = .mem m) : Meaning i (shiftBy lsrFn (.mem m))
  | rolMem {i m} (mn : i.mnemonic = .rol) (op : i.operand = .mem m) : Meaning i (shiftBy rolFn (.mem m))
  | rorMem {i m} (mn : i.mnemonic = .ror) (op : i.operand = .mem m) : Meaning i (shiftBy rorFn (.mem m))
  -- 44_jump_return.md
  | jsr (a) : Meaning (.jsrAbs a) fun s => (pushAddr (jsrReturn s) s).setPc a
  | rts : Meaning .rts fun s => (pullAddr s).2.setPc ((pullAddr s).1 + 1)
  | jmpAbs (a) : Meaning (.jmpAbs a) fun s => s.setPc a
  | jmpInd (a) : Meaning (.jmpInd a) fun s => (read16page a s).2.setPc (read16page a s).1
  | rti : Meaning .rti returnFromInterrupt
  -- 45_counter.md
  | inc {i m} (mn : i.mnemonic = .inc) (op : i.operand = .mem m) : Meaning i (modifyMem (fun v => v + 1) m)
  | dec {i m} (mn : i.mnemonic = .dec) (op : i.operand = .mem m) : Meaning i (modifyMem (fun v => v - 1) m)
  | inx : Meaning .inx fun s => ((s.setX (s.x + 1)).setP (s.p.setNZ (s.x + 1))).advance 1
  | dex : Meaning .dex fun s => ((s.setX (s.x - 1)).setP (s.p.setNZ (s.x - 1))).advance 1
  | iny : Meaning .iny fun s => ((s.setY (s.y + 1)).setP (s.p.setNZ (s.y + 1))).advance 1
  | dey : Meaning .dey fun s => ((s.setY (s.y - 1)).setP (s.p.setNZ (s.y - 1))).advance 1
  -- 46_arith_logic.md
  | adc {i src} (mn : i.mnemonic = .adc) (op : sourceOf i = some src) : Meaning i (addWithCarry src)
  | sbc {i src} (mn : i.mnemonic = .sbc) (op : sourceOf i = some src) : Meaning i (subWithCarry src)
  | bit {i m} (mn : i.mnemonic = .bit) (op : i.operand = .mem m) : Meaning i (testBits m)
  | and {i src} (mn : i.mnemonic = .and) (op : sourceOf i = some src) : Meaning i (logic (fun u v => u &&& v) src)
  | ora {i src} (mn : i.mnemonic = .ora) (op : sourceOf i = some src) : Meaning i (logic (fun u v => u ||| v) src)
  | eor {i src} (mn : i.mnemonic = .eor) (op : sourceOf i = some src) : Meaning i (logic (fun u v => u ^^^ v) src)
  -- 47_transfer.md
  | tax : Meaning .tax fun s => ((s.setX s.a).setP (s.p.setNZ s.a)).advance 1
  | txa : Meaning .txa fun s => ((s.setA s.x).setP (s.p.setNZ s.x)).advance 1
  | tay : Meaning .tay fun s => ((s.setY s.a).setP (s.p.setNZ s.a)).advance 1
  | tya : Meaning .tya fun s => ((s.setA s.y).setP (s.p.setNZ s.y)).advance 1
  | tsx : Meaning .tsx fun s => ((s.setX s.sp).setP (s.p.setNZ s.sp)).advance 1
  | txs : Meaning .txs fun s => (s.setSp s.x).advance 1
  -- 48_flag_set_clear.md
  | clc : Meaning .clc fun s => (s.setP { s.p with c := false }).advance 1
  | sec : Meaning .sec fun s => (s.setP { s.p with c := true }).advance 1
  | cld : Meaning .cld fun s => (s.setP { s.p with d := false }).advance 1
  | sed : Meaning .sed fun s => (s.setP { s.p with d := true }).advance 1
  | cli : Meaning .cli (writeI false)
  | sei : Meaning .sei (writeI true)
  | clv : Meaning .clv fun s => (s.setP { s.p with v := false }).advance 1
  -- 49_stack_misc.md
  | pha : Meaning .pha fun s => (push s.a s).advance 1
  | pla : Meaning .pla fun s => (((pull s).2.setA (pull s).1).setP (s.p.setNZ (pull s).1)).advance 1
  | php : Meaning .php fun s => (push (s.p.pack true) s).advance 1
  | plp : Meaning .plp fun s => (((pull s).2.setP (Flags.unpack (pull s).1)).setIBefore (some s.p.i)).advance 1
  | nop : Meaning .nop fun s => s.advance 1
  | brk : Meaning .brk fun s => enterInterrupt (s.pc + 2) true irqVector s

/-- Every instruction has a meaning, and running it answers what the meaning makes of the state. -/
theorem exec_meaning (i : Instr) : ∃ f, Meaning i f ∧ ∀ s, exec i s = .next (f s) := by
  cases i with
  | ldaImm _ | ldaZp _ | ldaZpx _ | ldaAbs _ | ldaAbx _ | ldaAby _ | ldaIzx _ | ldaIzy _ => exact ⟨_, .lda rfl rfl, fun _ => rfl⟩
  | ldxImm _ | ldxZp _ | ldxZpy _ | ldxAbs _ | ldxAby _ => exact ⟨_, .ldx rfl rfl, fun _ => rfl⟩
  | ldyImm _ | ldyZp _ | ldyZpx _ | ldyAbs _ | ldyAbx _ => exact ⟨_, .ldy rfl rfl, fun _ => rfl⟩
  | staZp _ | staZpx _ | staAbs _ | staAbx _ | staAby _ | staIzx _ | staIzy _ => exact ⟨_, .sta rfl rfl, fun _ => rfl⟩
  | stxZp _ | stxZpy _ | stxAbs _ => exact ⟨_, .stx rfl rfl, fun _ => rfl⟩
  | styZp _ | styZpx _ | styAbs _ => exact ⟨_, .sty rfl rfl, fun _ => rfl⟩
  | cmpImm _ | cmpZp _ | cmpZpx _ | cmpAbs _ | cmpAbx _ | cmpAby _ | cmpIzx _ | cmpIzy _ => exact ⟨_, .cmp rfl rfl, fun _ => rfl⟩
  | cpxImm _ | cpxZp _ | cpxAbs _ => exact ⟨_, .cpx rfl rfl, fun _ => rfl⟩
  | cpyImm _ | cpyZp _ | cpyAbs _ => exact ⟨_, .cpy rfl rfl, fun _ => rfl⟩
  | bpl _ | bmi _ | bvc _ | bvs _ | bcc _ | bcs _ | bne _ | beq _ => exact ⟨_, .branch rfl rfl, fun _ => rfl⟩
  | aslAcc => exact ⟨_, .aslAcc, fun _ => rfl⟩
  | lsrAcc => exact ⟨_, .lsrAcc, fun _ => rfl⟩
  | rolAcc => exact ⟨_, .rolAcc, fun _ => rfl⟩
  | rorAcc => exact ⟨_, .rorAcc, fun _ => rfl⟩
  | aslZp _ | aslZpx _ | aslAbs _ | aslAbx _ => exact ⟨_, .aslMem rfl rfl, fun _ => rfl⟩
  | lsrZp _ | lsrZpx _ | lsrAbs _ | lsrAbx _ => exact ⟨_, .lsrMem rfl rfl, fun _ => rfl⟩
  | rolZp _ | rolZpx _ | rolAbs _ | rolAbx _ => exact ⟨_, .rolMem rfl rfl, fun _ => rfl⟩
  | rorZp _ | rorZpx _ | rorAbs _ | rorAbx _ => exact ⟨_, .rorMem rfl rfl, fun _ => rfl⟩
  | jsrAbs a => exact ⟨_, .jsr a, fun _ => rfl⟩
  | rts => exact ⟨_, .rts, fun _ => rfl⟩
  | jmpAbs a => exact ⟨_, .jmpAbs a, fun _ => rfl⟩
  | jmpInd a => exact ⟨_, .jmpInd a, fun _ => rfl⟩
  | rti => exact ⟨_, .rti, fun _ => rfl⟩
  | incZp _ | incZpx _ | incAbs _ | incAbx _ => exact ⟨_, .inc rfl rfl, fun _ => rfl⟩
  | decZp _ | decZpx _ | decAbs _ | decAbx _ => exact ⟨_, .dec rfl rfl, fun _ => rfl⟩
  | inx => exact ⟨_, .inx, fun _ => rfl⟩
  | dex => exact ⟨_, .dex, fun _ => rfl⟩
  | iny => exact ⟨_, .iny, fun _ => rfl⟩
  | dey => exact ⟨_, .dey, fun _ => rfl⟩
  | adcImm _ | adcZp _ | adcZpx _ | adcAbs _ | adcAbx _ | adcAby _ | adcIzx _ | adcIzy _ => exact ⟨_, .adc rfl rfl, fun _ => rfl⟩
  | sbcImm _ | sbcZp _ | sbcZpx _ | sbcAbs _ | sbcAbx _ | sbcAby _ | sbcIzx _ | sbcIzy _ => exact ⟨_, .sbc rfl rfl, fun _ => rfl⟩
  | bitZp _ | bitAbs _ => exact ⟨_, .bit rfl rfl, fun _ => rfl⟩
  | andImm _ | andZp _ | andZpx _ | andAbs _ | andAbx _ | andAby _ | andIzx _ | andIzy _ => exact ⟨_, .and rfl rfl, fun _ => rfl⟩
  | oraImm _ | oraZp _ | oraZpx _ | oraAbs _ | oraAbx _ | oraAby _ | oraIzx _ | oraIzy _ => exact ⟨_, .ora rfl rfl, fun _ => rfl⟩
  | eorImm _ | eorZp _ | eorZpx _ | eorAbs _ | eorAbx _ | eorAby _ | eorIzx _ | eorIzy _ => exact ⟨_, .eor rfl rfl, fun _ => rfl⟩
  | tax => exact ⟨_, .tax, fun _ => rfl⟩
  | txa => exact ⟨_, .txa, fun _ => rfl⟩
  | tay => exact ⟨_, .tay, fun _ => rfl⟩
  | tya => exact ⟨_, .tya, fun _ => rfl⟩
  | tsx => exact ⟨_, .tsx, fun _ => rfl⟩
  | txs => exact ⟨_, .txs, fun _ => rfl⟩
  | clc => exact ⟨_, .clc, fun _ => rfl⟩
  | sec => exact ⟨_, .sec, fun _ => rfl⟩
  | cld => exact ⟨_, .cld, fun _ => rfl⟩
  | sed => exact ⟨_, .sed, fun _ => rfl⟩
  | cli => exact ⟨_, .cli, fun _ => rfl⟩
  | sei => exact ⟨_, .sei, fun _ => rfl⟩
  | clv => exact ⟨_, .clv, fun _ => rfl⟩
  | pha => exact ⟨_, .pha, fun _ => rfl⟩
  | pla => exact ⟨_, .pla, fun _ => rfl⟩
  | php => exact ⟨_, .php, fun _ => rfl⟩
  | plp => exact ⟨_, .plp, fun _ => rfl⟩
  | nop => exact ⟨_, .nop, fun _ => rfl⟩
  | brk => exact ⟨_, .brk, fun _ => rfl⟩

/-- What an instruction that runs from `s` to `t` means. -/
theorem meaning_of_exec {i : Instr} {s t : State} (h : exec i s = .next t) : ∃ f, Meaning i f ∧ t = f s := by
  obtain ⟨f, hf, e⟩ := exec_meaning i
  rw [e] at h
  exact ⟨f, hf, by cases h; rfl⟩

end Sys2Proof.Machine
end

section
/-! SUPPORT. The frame of an instruction: the parts of the state that a table of writes leaves unlisted are kept. One rule per operation on the
state, then the frame of each meaning. -/

namespace Sys2Proof.Safety

open Sys2Proof.Machine

/-- From `p` to `q`, each flag that `w` does not list is kept. -/
structure Writes.KeptFlags (w : Writes) (p q : Flags) : Prop where
  n : w.n = false → q.n = p.n
  v : w.v = false → q.v = p.v
  d : w.d = false → q.d = p.d
  i : w.i = false → q.i = p.i
  z : w.z = false → q.z = p.z
  c : w.c = false → q.c = p.c

/-- From `s` to `t`, each register, each flag and the storage that `w` does not list is kept, and so are the latch, the map and the coming
inputs. -/
structure Writes.Kept (w : Writes) (s t : State) : Prop where
  a : w.a = false → t.a = s.a
  x : w.x = false → t.x = s.x
  y : w.y = false → t.y = s.y
  sp : w.sp = false → t.sp = s.sp
  p : w.KeptFlags s.p t.p
  mem : w.mem = false → t.mem = s.mem
  nmiPending : t.nmiPending = s.nmiPending
  bus : t.bus = s.bus
  env : t.env = s.env
  envEnd : t.envEnd = s.envEnd

/-! The flag computations. -/

namespace Writes.KeptFlags

variable {w : Writes} {p : Flags}

theorem refl (w : Writes) (p : Flags) : w.KeptFlags p p :=
  ⟨fun _ => rfl, fun _ => rfl, fun _ => rfl, fun _ => rfl, fun _ => rfl, fun _ => rfl⟩

theorem setNZ (v : Byte) (n : w.n = true) (z : w.z = true) : w.KeptFlags p (p.setNZ v) :=
  { refl w p with n := by simp [n], z := by simp [z] }

theorem compare (reg m : Byte) (n : w.n = true) (z : w.z = true) (c : w.c = true) : w.KeptFlags p (p.compare reg m) :=
  { refl w p with n := by simp [n], z := by simp [z], c := by simp [c] }

theorem shift (r : Byte) (b : Bool) (n : w.n = true) (z : w.z = true) (c : w.c = true) : w.KeptFlags p (p.shift r b) :=
  { refl w p with n := by simp [n], z := by simp [z], c := by simp [c] }

theorem bitTest (acc m : Byte) (n : w.n = true) (v : w.v = true) (z : w.z = true) : w.KeptFlags p (p.bitTest acc m) :=
  { refl w p with n := by simp [n], v := by simp [v], z := by simp [z] }

theorem arith (r : ArithResult) (n : w.n = true) (v : w.v = true) (z : w.z = true) (c : w.c = true) : w.KeptFlags p (p.arith r) :=
  { refl w p with n := by simp [n], v := by simp [v], z := by simp [z], c := by simp [c] }

theorem setV {q : Flags} (h : w.KeptFlags p q) (b : Bool) (v : w.v = true) : w.KeptFlags p { q with v := b } :=
  { h with v := by simp [v] }

theorem setD {q : Flags} (h : w.KeptFlags p q) (b : Bool) (d : w.d = true) : w.KeptFlags p { q with d := b } :=
  { h with d := by simp [d] }

theorem setI {q : Flags} (h : w.KeptFlags p q) (b : Bool) (i : w.i = true) : w.KeptFlags p { q with i := b } :=
  { h with i := by simp [i] }

theorem setC {q : Flags} (h : w.KeptFlags p q) (b : Bool) (c : w.c = true) : w.KeptFlags p { q with c := b } :=
  { h with c := by simp [c] }

/-- Where all six flags are listed, any flags may follow. -/
theorem all (q : Flags) (n : w.n = true) (v : w.v = true) (d : w.d = true) (i : w.i = true) (z : w.z = true) (c : w.c = true) :
    w.KeptFlags p q := by
  constructor <;> simp [*]

end Writes.KeptFlags

/-! The operations on the state. -/

namespace Writes.Kept

variable {w : Writes} {s t : State}

theorem refl (w : Writes) (s : State) : w.Kept s s :=
  ⟨fun _ => rfl, fun _ => rfl, fun _ => rfl, fun _ => rfl, .refl w s.p, fun _ => rfl, rfl, rfl, rfl, rfl⟩

theorem setA (h : w.Kept s t) (v : Byte) (a : w.a = true) : w.Kept s (t.setA v) := { h with a := by simp [a] }

theorem setX (h : w.Kept s t) (v : Byte) (x : w.x = true) : w.Kept s (t.setX v) := { h with x := by simp [x] }

theorem setY (h : w.Kept s t) (v : Byte) (y : w.y = true) : w.Kept s (t.setY v) := { h with y := by simp [y] }

theorem setSp (h : w.Kept s t) (v : Byte) (sp : w.sp = true) : w.Kept s (t.setSp v) := { h with sp := by simp [sp] }

theorem setP (h : w.Kept s t) {q : Flags} (p : w.KeptFlags s.p q) : w.Kept s (t.setP q) := { h with p := p }

theorem setPc (h : w.Kept s t) (a : Addr) : w.Kept s (t.setPc a) := { h with }

theorem setIBefore (h : w.Kept s t) (b : Option Bool) : w.Kept s (t.setIBefore b) := { h with }

theorem advance (h : w.Kept s t) (len : Nat) : w.Kept s (t.advance len) := h.setPc _

theorem memRead (h : w.Kept s t) (a : Addr) : w.Kept s (memRead a t).2 := by
  rcases memRead_cases a t with ⟨_, e⟩ | ⟨_, e⟩ | ⟨_, e⟩ <;> rw [e] <;> exact { h with }

theorem memWrite (h : w.Kept s t) (a : Addr) (v : Byte) (mem : w.mem = true) : w.Kept s (memWrite a v t) := by
  rcases memWrite_cases a v t with ⟨_, e⟩ | ⟨_, e⟩ | ⟨_, e⟩ <;> rw [e] <;> exact { h with mem := by simp [mem] }

theorem read16 (h : w.Kept s t) (a : Addr) : w.Kept s (read16 a t).2 := (h.memRead _).memRead _

theorem read16zp (h : w.Kept s t) (n : Byte) : w.Kept s (read16zp n t).2 := (h.memRead _).memRead _

theorem read16page (h : w.Kept s t) (a : Addr) : w.Kept s (read16page a t).2 := (h.memRead _).memRead _

theorem effAddr (h : w.Kept s t) (m : MemMode) : w.Kept s (effAddr m t).2 := by
  cases m with
  | zp _ | zpx _ | zpy _ | abs _ | abx _ | aby _ => exact h
  | izx _ | izy _ => exact h.read16zp _

theorem readSource (h : w.Kept s t) (src : Source) : w.Kept s (readSource src t).2 := by
  cases src with
  | imm _ => exact h
  | mem m => exact (h.effAddr m).memRead _

theorem push (h : w.Kept s t) (v : Byte) (sp : w.sp = true) (mem : w.mem = true) : w.Kept s (push v t) :=
  (h.memWrite _ v mem).setSp _ sp

theorem pushAddr (h : w.Kept s t) (a : Addr) (sp : w.sp = true) (mem : w.mem = true) : w.Kept s (pushAddr a t) :=
  (h.push _ sp mem).push _ sp mem

theorem pull (h : w.Kept s t) (sp : w.sp = true) : w.Kept s (pull t).2 := (h.setSp _ sp).memRead _

theorem pullAddr (h : w.Kept s t) (sp : w.sp = true) : w.Kept s (pullAddr t).2 := (h.pull sp).pull sp

end Writes.Kept

/-! The operations of the instruction families. -/

namespace Writes.Kept

variable (w : Writes) (s : State)

theorem loadA (src : Source) (a : w.a = true) (n : w.n = true) (z : w.z = true) : w.Kept s (loadA src s) :=
  ((((refl w s).readSource src).setA _ a).setP (.setNZ _ n z)).advance _

theorem loadX (src : Source) (x : w.x = true) (n : w.n = true) (z : w.z = true) : w.Kept s (loadX src s) :=
  ((((refl w s).readSource src).setX _ x).setP (.setNZ _ n z)).advance _

theorem loadY (src : Source) (y : w.y = true) (n : w.n = true) (z : w.z = true) : w.Kept s (loadY src s) :=
  ((((refl w s).readSource src).setY _ y).setP (.setNZ _ n z)).advance _

theorem storeByte (v : Byte) (m : MemMode) (mem : w.mem = true) : w.Kept s (storeByte v m s) :=
  (((refl w s).effAddr m).memWrite _ v mem).advance _

theorem compareWith (reg : Byte) (src : Source) (n : w.n = true) (z : w.z = true) (c : w.c = true) :
    w.Kept s (compareWith reg src s) :=
  (((refl w s).readSource src).setP (.compare reg _ n z c)).advance _

theorem branch (cond : Bool) (d : Byte) : w.Kept s (branch cond d s) := by
  cases cond with
  | false | true => exact (refl w s).setPc _

theorem shiftAcc (f : Byte → Bool → Byte × Bool) (a : w.a = true) (n : w.n = true) (z : w.z = true) (c : w.c = true) :
    w.Kept s (shiftBy f .acc s) :=
  (((refl w s).setA _ a).setP (.shift _ _ n z c)).advance _

theorem shiftMem (f : Byte → Bool → Byte × Bool) (m : MemMode) (n : w.n = true) (z : w.z = true) (c : w.c = true)
    (mem : w.mem = true) : w.Kept s (shiftBy f (.mem m) s) :=
  (((((refl w s).effAddr m).memRead _).memWrite _ _ mem).setP (.shift _ _ n z c)).advance _

theorem modifyMem (f : Byte → Byte) (m : MemMode) (n : w.n = true) (z : w.z = true) (mem : w.mem = true) :
    w.Kept s (modifyMem f m s) :=
  (((((refl w s).effAddr m).memRead _).memWrite _ _ mem).setP (.setNZ _ n z)).advance _

theorem addWithCarry (src : Source) (a : w.a = true) (n : w.n = true) (v : w.v = true) (z : w.z = true) (c : w.c = true) :
    w.Kept s (addWithCarry src s) :=
  ((((refl w s).readSource src).setA _ a).setP (.arith _ n v z c)).advance _

theorem subWithCarry (src : Source) (a : w.a = true) (n : w.n = true) (v : w.v = true) (z : w.z = true) (c : w.c = true) :
    w.Kept s (subWithCarry src s) :=
  ((((refl w s).readSource src).setA _ a).setP (.arith _ n v z c)).advance _

theorem testBits (m : MemMode) (n : w.n = true) (v : w.v = true) (z : w.z = true) : w.Kept s (testBits m s) :=
  (((refl w s).readSource (.mem m)).setP (.bitTest _ _ n v z)).advance _

theorem logic (f : Byte → Byte → Byte) (src : Source) (a : w.a = true) (n : w.n = true) (z : w.z = true) :
    w.Kept s (logic f src s) :=
  ((((refl w s).readSource src).setA _ a).setP (.setNZ _ n z)).advance _

theorem writeI (b : Bool) (i : w.i = true) : w.Kept s (writeI b s) :=
  (((refl w s).setP ((KeptFlags.refl w s.p).setI b i)).setIBefore _).advance _

theorem enterInterrupt (ret : Addr) (brk : Bool) (vector : Addr) (sp : w.sp = true) (i : w.i = true) (mem : w.mem = true) :
    w.Kept s (enterInterrupt ret brk vector s) := by
  have pushed : w.Kept s (Machine.push (s.p.pack brk) (Machine.pushAddr ret s)) := ((refl w s).pushAddr ret sp mem).push _ sp mem
  exact ((pushed.setP (pushed.p.setI true i)).read16 vector).setPc _

theorem returnFromInterrupt (sp : w.sp = true) (n : w.n = true) (v : w.v = true) (d : w.d = true) (i : w.i = true) (z : w.z = true)
    (c : w.c = true) : w.Kept s (returnFromInterrupt s) :=
  ((((refl w s).pull sp).setP (.all _ n v d i z c)).pullAddr sp).setPc _

end Writes.Kept

/-- An instruction with a memory operand is not in mode `A`. -/
theorem mode_ne_acc_of_mem {i : Instr} {m : MemMode} (op : i.operand = .mem m) : i.mode ≠ .acc := by
  have e : i.mode = m.mode := congrArg Operand.mode op
  rw [e]
  cases m <;> simp [MemMode.mode]

/-- Each meaning keeps what the summary table does not list for its instruction (10_state.md R39). -/
theorem Writes.Kept.of_meaning {i : Instr} {f : State → State} (h : Meaning i f) (s : State) : (writesOf i).Kept s (f s) := by
  have r := refl (writesOf i) s
  cases h with
  | lda mn => apply loadA <;> simp [writesOf, mn]
  | ldx mn => apply loadX <;> simp [writesOf, mn]
  | ldy mn => apply loadY <;> simp [writesOf, mn]
  | sta mn | stx mn | sty mn => apply storeByte; simp [writesOf, mn]
  | cmp mn | cpx mn | cpy mn => apply compareWith <;> simp [writesOf, mn]
  | branch => exact branch _ s _ _
  | aslAcc | lsrAcc | rolAcc | rorAcc => exact shiftAcc _ s _ rfl rfl rfl rfl
  | aslMem mn op | lsrMem mn op | rolMem mn op | rorMem mn op =>
    apply shiftMem <;> simp [writesOf, mn, mode_ne_acc_of_mem op]
  | jsr => exact (r.pushAddr _ rfl rfl).setPc _
  | rts => exact (r.pullAddr rfl).setPc _
  | jmpAbs => exact r.setPc _
  | jmpInd => exact (r.read16page _).setPc _
  | rti => exact returnFromInterrupt _ s rfl rfl rfl rfl rfl rfl rfl
  | inc mn | dec mn => apply modifyMem <;> simp [writesOf, mn]
  | inx | dex | tax | tsx => exact ((r.setX _ rfl).setP (.setNZ _ rfl rfl)).advance _
  | iny | dey | tay => exact ((r.setY _ rfl).setP (.setNZ _ rfl rfl)).advance _
  | txa | tya => exact ((r.setA _ rfl).setP (.setNZ _ rfl rfl)).advance _
  | adc mn => apply addWithCarry <;> simp [writesOf, mn]
  | sbc mn => apply subWithCarry <;> simp [writesOf, mn]
  | bit mn => apply testBits <;> simp [writesOf, mn]
  | and mn | ora mn | eor mn => apply logic <;> simp [writesOf, mn]
  | txs => exact (r.setSp _ rfl).advance _
  | clc | sec => exact (r.setP (r.p.setC _ rfl)).advance _
  | cld | sed => exact (r.setP (r.p.setD _ rfl)).advance _
  | clv => exact (r.setP (r.p.setV _ rfl)).advance _
  | cli | sei => exact writeI _ s _ rfl
  | pha | php => exact (r.push _ rfl rfl).advance _
  | pla => exact (((r.pull rfl).setA _ rfl).setP (.setNZ _ rfl rfl)).advance _
  | plp => exact (((r.pull rfl).setP (.all _ rfl rfl rfl rfl rfl rfl)).setIBefore _).advance _
  | nop => exact r.advance _
  | brk => exact enterInterrupt _ s _ _ _ rfl rfl rfl

/-- Every instruction keeps what the summary table does not list for it. -/
theorem exec_kept {i : Instr} {s t : State} (h : exec i s = .next t) : (writesOf i).Kept s t := by
  obtain ⟨f, hf, rfl⟩ := meaning_of_exec h
  exact .of_meaning hf s

end Sys2Proof.Safety

namespace Sys2Proof

open Sys2Proof.Machine Sys2Proof.Safety

/-- Settles O49: every meaning is built from the operations whose rules `Writes.Kept` has. -/
theorem instructionsWriteOnlyWhatTheTableLists : Obligations.InstructionsWriteOnlyWhatTheTableLists := by
  intro i s t h
  have k := exec_kept h
  exact ⟨k.a, k.x, k.y, k.sp, k.p.n, k.p.v, k.p.d, k.p.i, k.p.z, k.p.c, fun w b => State.peek_congr s t (k.mem w) b,
    k.nmiPending, k.bus, k.env, k.envEnd⟩

end Sys2Proof
end

section
/-! PROOF. The overflow flag changes only by six instructions or a reset entry. -/

namespace Sys2Proof.Safety

open Sys2Proof.Machine

/-- The instructions whose row lists V (10_state.md R28, R39). -/
theorem mnemonic_of_writesOf_v {i : Instr} (h : (writesOf i).v = true) :
    i.mnemonic ∈ [Mnemonic.adc, .bit, .clv, .plp, .rti, .sbc] := by
  unfold writesOf at h
  cases e : i.mnemonic <;> simp_all [Writes.none]

/-- An instruction that changes V is one of the six of R28. -/
theorem mnemonic_of_v_changed {i : Instr} {s t : State} (h : exec i s = .next t) (changed : t.p.v ≠ s.p.v) :
    i.mnemonic ∈ [Mnemonic.adc, .bit, .clv, .plp, .rti, .sbc] := by
  apply mnemonic_of_writesOf_v
  by_contra unlisted
  exact changed ((exec_kept h).p.v (by simpa using unlisted))

/-- A boundary takes the reset entry only on its line. -/
theorem resetLine_of_boundary_reset {s : State} (h : (boundary s).1 = .reset) : s.inputs.resetLine = true := by
  rw [boundary_event] at h
  by_contra low
  rw [if_neg low] at h
  split_ifs at h

end Sys2Proof.Safety

namespace Sys2Proof

open Sys2Proof.Machine Sys2Proof.Safety

/-- Settles O50, along the four kinds of step: an interrupt entry keeps V, and of the instructions only those that list V change it. -/
theorem overflowChangesOnlyBySixInstructionsOrReset : Obligations.OverflowChangesOnlyBySixInstructionsOrReset := by
  intro s t h changed
  rcases step_cases s t h with ⟨ev, -⟩ | ⟨-, rfl⟩ | ⟨-, rfl⟩ | ⟨ev, i, s', hf, he⟩
  · exact .inl ⟨ev, resetLine_of_boundary_reset ev⟩
  · exact absurd (by simp [nmiEntry]) changed
  · exact absurd (by simp [irqEntry]) changed
  · have fetched : s'.p = s.p := by rw [fetch_frame _ i s' hf, boundary_p]
    exact .inr ⟨ev, i, s', hf, he, mnemonic_of_v_changed he (by rwa [fetched])⟩

end Sys2Proof
end

section
/-! SUPPORT. The Decimal flag and the operations: which of them commute with giving D another value. -/

namespace Sys2Proof.Machine

/-- The flags with another D. -/
def Flags.withD (p : Flags) (b : Bool) : Flags := { p with d := b }

/-- The state with another D. -/
def State.withD (s : State) (b : Bool) : State := s.setP (s.p.withD b)

/-- `f` does to a state with another D what it does to the state, and leaves that D. -/
def IgnoresD (f : State → State) : Prop := ∀ s b, f (s.withD b) = (f s).withD b

/-! What a state with another D holds. -/

section
variable (s : State) (p : Flags) (b : Bool)

@[simp] theorem Flags.withD_n : (p.withD b).n = p.n := rfl
@[simp] theorem Flags.withD_v : (p.withD b).v = p.v := rfl
@[simp] theorem Flags.withD_i : (p.withD b).i = p.i := rfl
@[simp] theorem Flags.withD_z : (p.withD b).z = p.z := rfl
@[simp] theorem Flags.withD_c : (p.withD b).c = p.c := rfl

@[simp] theorem State.withD_a : (s.withD b).a = s.a := rfl
@[simp] theorem State.withD_x : (s.withD b).x = s.x := rfl
@[simp] theorem State.withD_y : (s.withD b).y = s.y := rfl
@[simp] theorem State.withD_sp : (s.withD b).sp = s.sp := rfl
@[simp] theorem State.withD_pc : (s.withD b).pc = s.pc := rfl
@[simp] theorem State.withD_p : (s.withD b).p = s.p.withD b := rfl
@[simp] theorem State.withD_kindAt (a : Addr) : (s.withD b).kindAt a = s.kindAt a := rfl

/-! The flag computations leave D as they find it. -/

@[simp] theorem Flags.withD_setNZ (v : Byte) : (p.withD b).setNZ v = (p.setNZ v).withD b := rfl
@[simp] theorem Flags.withD_compare (r m : Byte) : (p.withD b).compare r m = (p.compare r m).withD b := rfl
@[simp] theorem Flags.withD_bitTest (r m : Byte) : (p.withD b).bitTest r m = (p.bitTest r m).withD b := rfl
@[simp] theorem Flags.withD_shift (r : Byte) (c : Bool) : (p.withD b).shift r c = (p.shift r c).withD b := rfl

/-- No branch tests D (42_branch.md R151 to R158). -/
@[simp] theorem branchCondition_withD (m : Mnemonic) : branchCondition m (p.withD b) = branchCondition m p := by
  cases m <;> rfl

/-! The updates. -/

@[simp] theorem State.withD_setA (v : Byte) : (s.withD b).setA v = (s.setA v).withD b := rfl
@[simp] theorem State.withD_setX (v : Byte) : (s.withD b).setX v = (s.setX v).withD b := rfl
@[simp] theorem State.withD_setY (v : Byte) : (s.withD b).setY v = (s.setY v).withD b := rfl
@[simp] theorem State.withD_setSp (v : Byte) : (s.withD b).setSp v = (s.setSp v).withD b := rfl
@[simp] theorem State.withD_setPc (a : Addr) : (s.withD b).setPc a = (s.setPc a).withD b := rfl
@[simp] theorem State.withD_setP : (s.withD b).setP (p.withD b) = (s.setP p).withD b := rfl
@[simp] theorem State.withD_setIBefore (i : Option Bool) : (s.withD b).setIBefore i = (s.setIBefore i).withD b := rfl
@[simp] theorem State.withD_advance (len : Nat) : (s.withD b).advance len = (s.advance len).withD b := rfl

/-! The accesses, the stack and the operands. -/

@[simp] theorem memRead_withD (a : Addr) : memRead a (s.withD b) = ((memRead a s).1, (memRead a s).2.withD b) := by
  unfold memRead
  rw [State.withD_kindAt]
  cases s.kindAt a with
  | ram | rom | io | unmapped => rfl

@[simp] theorem memWrite_withD (a : Addr) (v : Byte) : memWrite a v (s.withD b) = (memWrite a v s).withD b := by
  unfold memWrite
  rw [State.withD_kindAt]
  cases s.kindAt a with
  | ram | rom | io | unmapped => rfl

@[simp] theorem read16zp_withD (n : Byte) : read16zp n (s.withD b) = ((read16zp n s).1, (read16zp n s).2.withD b) := by
  simp [read16zp]

@[simp] theorem read16page_withD (a : Addr) : read16page a (s.withD b) = ((read16page a s).1, (read16page a s).2.withD b) := by
  simp [read16page]

@[simp] theorem push_withD (v : Byte) : push v (s.withD b) = (push v s).withD b := by
  simp [push]

@[simp] theorem pushAddr_withD (a : Addr) : pushAddr a (s.withD b) = (pushAddr a s).withD b := by
  simp [pushAddr]

@[simp] theorem pull_withD : pull (s.withD b) = ((pull s).1, (pull s).2.withD b) := by
  simp [pull]

@[simp] theorem pullAddr_withD : pullAddr (s.withD b) = ((pullAddr s).1, (pullAddr s).2.withD b) := by
  simp [pullAddr]

@[simp] theorem effAddr_withD (m : MemMode) : effAddr m (s.withD b) = ((effAddr m s).1, (effAddr m s).2.withD b) := by
  cases m with
  | zp _ | zpx _ | zpy _ | abs _ | abx _ | aby _ => rfl
  | izx _ | izy _ => simp [effAddr]

@[simp] theorem readSource_withD (src : Source) :
    readSource src (s.withD b) = ((readSource src s).1, (readSource src s).2.withD b) := by
  cases src with
  | imm _ => rfl
  | mem m => simp [readSource]

end

/-! The operations of the instruction families that ignore D. -/

theorem loadA_ignoresD (src : Source) : IgnoresD (loadA src) := fun s b => by simp [loadA]

theorem loadX_ignoresD (src : Source) : IgnoresD (loadX src) := fun s b => by simp [loadX]

theorem loadY_ignoresD (src : Source) : IgnoresD (loadY src) := fun s b => by simp [loadY]

theorem storeByte_withD (v : Byte) (m : MemMode) (s : State) (b : Bool) :
    storeByte v m (s.withD b) = (storeByte v m s).withD b := by simp [storeByte]

theorem compareWith_withD (reg : Byte) (src : Source) (s : State) (b : Bool) :
    compareWith reg src (s.withD b) = (compareWith reg src s).withD b := by simp [compareWith]

theorem branch_withD (cond : Bool) (d : Byte) (s : State) (b : Bool) :
    branch cond d (s.withD b) = (branch cond d s).withD b := by
  cases cond with
  | false | true => rfl

theorem shiftBy_ignoresD (f : Byte → Bool → Byte × Bool) (t : Target) : IgnoresD (shiftBy f t) := fun s b => by
  cases t with
  | acc => rfl
  | mem m => simp [shiftBy]

theorem modifyMem_ignoresD (f : Byte → Byte) (m : MemMode) : IgnoresD (modifyMem f m) := fun s b => by simp [modifyMem]

theorem testBits_ignoresD (m : MemMode) : IgnoresD (testBits m) := fun s b => by simp [testBits]

theorem logic_ignoresD (f : Byte → Byte → Byte) (src : Source) : IgnoresD (logic f src) := fun s b => by simp [logic]

/-- Every meaning ignores D but those of ADC and SBC and of the instructions that push, pull or write D (10_state.md R30). -/
theorem Meaning.ignoresD {i : Instr} {f : State → State} (h : Meaning i f)
    (other : i.mnemonic ∉ [Mnemonic.adc, .sbc, .php, .plp, .rti, .brk, .cld, .sed]) : IgnoresD f := by
  cases h with
  | lda => exact loadA_ignoresD _
  | ldx => exact loadX_ignoresD _
  | ldy => exact loadY_ignoresD _
  | sta | stx | sty => exact fun s b => by simp [storeByte_withD]
  | cmp | cpx | cpy => exact fun s b => by simp [compareWith_withD]
  | branch => exact fun s b => by simp [branch_withD]
  | aslAcc | lsrAcc | rolAcc | rorAcc | aslMem | lsrMem | rolMem | rorMem => exact shiftBy_ignoresD _ _
  | inc | dec => exact modifyMem_ignoresD _ _
  | bit => exact testBits_ignoresD _
  | and | ora | eor => exact logic_ignoresD _ _
  | jsr | rts | jmpInd | pha | pla => exact fun s b => by simp [jsrReturn]
  | jmpAbs | inx | dex | iny | dey | tax | txa | tay | tya | tsx | txs | clc | sec | cli | sei | clv | nop => exact fun s b => rfl
  | adc mn | sbc mn => simp [mn] at other
  | php | plp | rti | brk | cld | sed => exact absurd (by decide) other

end Sys2Proof.Machine

namespace Sys2Proof

open Sys2Proof.Machine Sys2Proof.Safety

/-- Settles O52: the meaning of such an instruction ignores D. -/
theorem onlyAdcAndSbcHeedTheDecimalFlag : Obligations.OnlyAdcAndSbcHeedTheDecimalFlag := by
  intro i s b other
  obtain ⟨f, hf, e⟩ := exec_meaning i
  calc exec i (s.withD b) = .next (f (s.withD b)) := e _
    _ = .next ((f s).withD b) := by rw [hf.ignoresD other s b]
    _ = mapNext (fun t => t.withD b) (exec i s) := by rw [e]; rfl

end Sys2Proof
end

section
/-! PROOF. The layout of the status byte, and the state after reset. -/

namespace Sys2Proof.Machine

/-- The bits of a status byte, from bit 0 up (10_state.md R34). -/
theorem Flags.getLsbD_pack (p : Flags) (b : Bool) (k : Nat) :
    (p.pack b).getLsbD k = [p.c, p.z, p.i, p.d, b, true, p.v, p.n].getD k false := by
  unfold Flags.pack
  -- `BitVec.getLsbD_append` sees a concatenation only where the width is written as a sum.
  change BitVec.getLsbD (w := 1 + 1 + 1 + 1 + 1 + 1 + 1 + 1) _ _ = _
  simp only [BitVec.getLsbD_append]
  match k with
  | 0 | 1 | 2 | 3 | 4 | 5 | 6 | 7 => simp
  | k + 8 => simp

theorem Flags.unpack_pack (p : Flags) (b : Bool) : Flags.unpack (p.pack b) = p := by
  simp only [Flags.unpack, Flags.getLsbD_pack]
  rfl

/-- Unpacking drops bits 5 and 4; packing sets bit 5 and puts its argument in bit 4 (10_state.md R34). -/
theorem Flags.pack_unpack (v : Byte) (b : Bool) :
    (Flags.unpack v).pack b = (v &&& 0xCF#8) ||| 0x20#8 ||| (if b then 0x10#8 else 0x00#8) := by
  apply BitVec.eq_of_getLsbD_eq
  intro k hk
  rw [Flags.getLsbD_pack]
  interval_cases k <;> cases b <;> simp [Flags.unpack]

/-- Every read at reset is of blank `ram`. -/
theorem memRead_reset (a : Addr) : memRead a State.reset = (Memory.blank, State.reset) := memRead_stored a State.reset rfl

/-- Every pointer read at reset is $0000. -/
theorem read16_reset (a : Addr) : (read16 a State.reset).1 = 0x0000#16 := by
  simp only [read16, memRead_reset]
  rfl

end Sys2Proof.Machine

namespace Sys2Proof

open Sys2Proof.Machine Sys2Proof.Safety

/-- Settles O12, bit by bit. -/
theorem statusByteLayout : Obligations.StatusByteLayout := by
  refine ⟨fun p b => ?_, Flags.pack_unpack⟩
  simp only [Flags.getLsbD_pack, Flags.unpack_pack]
  exact ⟨rfl, rfl, rfl, rfl, rfl, rfl, rfl, rfl, trivial⟩

/-- Settles O44: blank storage holds $0000 in the reset vector. -/
theorem resetStateIsAsTheSpecGives : Obligations.ResetStateIsAsTheSpecGives :=
  ⟨rfl, rfl, (read16_reset 0xFFFC#16).symm⟩

/-- Settles O45: blank storage lists no cell. -/
theorem resetMeetsTheInvariant : Obligations.ResetMeetsTheInvariant :=
  show Memory.wf [] = true from rfl

end Sys2Proof
end

section
/-! SUPPORT. What every operation does to storage, the map, the coming inputs, the draw counter and the `io` trace, said once for the
operations, the meanings, the entries and the step. -/

namespace Sys2Proof.Safety

open Sys2Proof.Machine

/-- From `s` to `t` storage is written at `ram` addresses within `W` only and keeps its canonical form; the map and the coming inputs stay;
values are drawn and `io` accesses logged, the latter only where an address is `io`. -/
structure WritesWithin (W : Addr → Prop) (s t : State) : Prop where
  wf : s.mem.wf = true → t.mem.wf = true
  changed : ∀ b, t.peek b ≠ s.peek b → s.kindAt b = .ram ∧ W b
  bus : t.bus = s.bus
  env : t.env = s.env
  envEnd : t.envEnd = s.envEnd
  draws : s.draws ≤ t.draws
  trace : s.ioTrace <:+ t.ioTrace
  ioFree : IoFree s → t.ioTrace = s.ioTrace

@[simp] theorem hiByte_stackAddr (k : Byte) : hiByte (stackAddr k) = 0x01#8 := hiByte_mkAddr _ _

namespace WritesWithin

variable {W : Addr → Prop} {s t : State}

theorem refl (W : Addr → Prop) (s : State) : WritesWithin W s s :=
  ⟨id, fun _ h => absurd rfl h, rfl, rfl, rfl, le_rfl, List.suffix_rfl, fun _ => rfl⟩

/-! The operations on the state. -/

/-- The registers, the flags, the latch and the old I are free. -/
theorem registers (h : WritesWithin W s t) {u : State}
    (e : u = { t with
      a := u.a, x := u.x, y := u.y, sp := u.sp, pc := u.pc, p := u.p, nmiPending := u.nmiPending, iBefore := u.iBefore }) :
    WritesWithin W s u := by
  rw [e]
  exact { h with }

theorem setPc (h : WritesWithin W s t) (a : Addr) : WritesWithin W s (t.setPc a) := h.registers rfl

theorem drawn (h : WritesWithin W s t) (k : Nat) : WritesWithin W s (t.setDraws (t.draws + k)) :=
  { h with draws := h.draws.trans (Nat.le_add_right _ _) }

theorem logIo (h : WritesWithin W s t) {a : Addr} (io : t.kindAt a = .io) (e : IoEvent) : WritesWithin W s (t.logIo e) :=
  { h with
    trace := h.trace.trans (List.suffix_cons _ _)
    ioFree := fun free => absurd io (free.congr h.bus a) }

theorem memRead (h : WritesWithin W s t) (a : Addr) : WritesWithin W s (memRead a t).2 := by
  rcases memRead_cases a t with ⟨_, e⟩ | ⟨io, e⟩ | ⟨_, e⟩ <;> rw [e]
  · exact h
  · exact (h.drawn 1).logIo io _
  · exact h.drawn 1

theorem memWrite (h : WritesWithin W s t) (a : Addr) (v : Byte) (within : W a) : WritesWithin W s (memWrite a v t) where
  wf ws := memWrite_wf a v t (h.wf ws)
  changed b := by
    rw [peek_memWrite]
    split_ifs with here
    · obtain ⟨rfl, ram⟩ := here
      exact fun _ => ⟨by rwa [State.kindAt_congr s t h.bus] at ram, within⟩
    · exact h.changed b
  bus := by simp [h.bus]
  env := by simp [h.env]
  envEnd := by simp [h.envEnd]
  draws := by simp [h.draws]
  trace := h.trace.trans ⟨_, (memWrite_ioTrace a v t).symm⟩
  ioFree free := by rw [memWrite_ioTrace_free a v t (free.congr h.bus), h.ioFree free]

theorem read16 (h : WritesWithin W s t) (a : Addr) : WritesWithin W s (read16 a t).2 := (h.memRead _).memRead _

theorem read16zp (h : WritesWithin W s t) (n : Byte) : WritesWithin W s (read16zp n t).2 := (h.memRead _).memRead _

theorem read16page (h : WritesWithin W s t) (a : Addr) : WritesWithin W s (read16page a t).2 := (h.memRead _).memRead _

theorem effAddr (h : WritesWithin W s t) (m : MemMode) : WritesWithin W s (effAddr m t).2 := by
  cases m with
  | zp _ | zpx _ | zpy _ | abs _ | abx _ | aby _ => exact h
  | izx _ | izy _ => exact h.read16zp _

theorem readSource (h : WritesWithin W s t) (src : Source) : WritesWithin W s (readSource src t).2 := by
  cases src with
  | imm _ => exact h
  | mem m => exact (h.effAddr m).memRead _

theorem branch (h : WritesWithin W s t) (cond : Bool) (d : Byte) : WritesWithin W s (branch cond d t) := by
  cases cond with
  | false | true => exact h.setPc _

theorem push (h : WritesWithin W s t) (v : Byte) (stack : ∀ k, W (stackAddr k)) : WritesWithin W s (push v t) :=
  (h.memWrite _ v (stack _)).registers rfl

theorem pushAddr (h : WritesWithin W s t) (a : Addr) (stack : ∀ k, W (stackAddr k)) : WritesWithin W s (pushAddr a t) :=
  (h.push _ stack).push _ stack

theorem pull (h : WritesWithin W s t) : WritesWithin W s (pull t).2 :=
  (h.registers (u := t.setSp (t.sp + 1)) rfl).memRead _

theorem pullAddr (h : WritesWithin W s t) : WritesWithin W s (pullAddr t).2 := h.pull.pull

theorem enterInterrupt (h : WritesWithin W s t) (ret : Addr) (brk : Bool) (vector : Addr) (stack : ∀ k, W (stackAddr k)) :
    WritesWithin W s (enterInterrupt ret brk vector t) := by
  have pushed : WritesWithin W s (Machine.push (t.p.pack brk) (Machine.pushAddr ret t)) := (h.pushAddr ret stack).push _ stack
  have masked := pushed.registers (u := State.setP _ { (Machine.push (t.p.pack brk) (Machine.pushAddr ret t)).p with i := true }) rfl
  exact (masked.read16 vector).registers rfl

theorem returnFromInterrupt (h : WritesWithin W s t) : WritesWithin W s (returnFromInterrupt t) :=
  (h.pull.registers (u := (Machine.pull t).2.setP (Flags.unpack (Machine.pull t).1)) rfl).pullAddr.registers rfl

theorem drawRegisters (h : WritesWithin W s t) : WritesWithin W s (drawRegisters t) :=
  (h.drawn 9).registers (by apply State.ext <;> simp [Machine.drawRegisters, drawByte, drawBit])

theorem resetEntry (h : WritesWithin W s t) : WritesWithin W s (resetEntry t) :=
  ((h.registers (u := t.setNmiPending false) rfl).read16 resetVector).drawRegisters.setPc _

theorem fetch (h : WritesWithin W s t) {i : Instr} {u : State} (f : fetch t = .ok (i, u)) : WritesWithin W s u := by
  simp only [Machine.fetch] at f
  split at f <;> simp only [Except.ok.injEq, Prod.mk.injEq, reduceCtorEq] at f <;> obtain ⟨-, rfl⟩ := f
  · exact h.memRead _
  · exact (h.memRead _).memRead _
  · exact ((h.memRead _).memRead _).memRead _

end WritesWithin

/-- Where an instruction may write: the stack instructions in page one, the others anywhere (20_memory.md R56, R57). -/
def writeRange (i : Instr) (b : Addr) : Prop :=
  i.mnemonic ∈ [Mnemonic.pha, .php, .pla, .plp, .jsr, .rts, .rti, .brk] → hiByte b = 0x01#8

theorem writeRange_stackAddr (i : Instr) (k : Byte) : writeRange i (stackAddr k) := fun _ => hiByte_stackAddr k

/-- Each meaning writes within the range of its instruction. -/
theorem WritesWithin.meaning {W : Addr → Prop} {s t : State} (r : WritesWithin W s t) {i : Instr} {f : State → State}
    (h : Meaning i f) (range : ∀ b, writeRange i b → W b) : WritesWithin W s (f t) := by
  have stack k : W (stackAddr k) := range _ (writeRange_stackAddr i k)
  cases h with
  | lda | ldx | ldy | cmp | cpx | cpy | adc | sbc | bit | and | ora | eor => exact (r.readSource _).registers rfl
  | sta mn | stx mn | sty mn => exact ((r.effAddr _).memWrite _ _ (range _ (by simp [writeRange, mn]))).registers rfl
  | aslMem mn | lsrMem mn | rolMem mn | rorMem mn | inc mn | dec mn =>
    exact (((r.effAddr _).memRead _).memWrite _ _ (range _ (by simp [writeRange, mn]))).registers rfl
  | branch => exact r.branch _ _
  | jmpInd => exact (r.read16page _).setPc _
  | jsr => exact (r.pushAddr _ stack).setPc _
  | rts => exact r.pullAddr.setPc _
  | rti => exact r.returnFromInterrupt
  | pha | php => exact (r.push _ stack).registers rfl
  | pla | plp => exact r.pull.registers rfl
  | brk => exact r.enterInterrupt _ _ _ stack
  | aslAcc | lsrAcc | rolAcc | rorAcc | jmpAbs | inx | dex | iny | dey | tax | txa | tay | tya | tsx | txs | clc | sec | cld | sed | cli
  | sei | clv | nop => exact r.registers rfl

theorem WritesWithin.exec {W : Addr → Prop} {s t u : State} (r : WritesWithin W s t) {i : Instr} (h : exec i t = .next u)
    (range : ∀ b, writeRange i b → W b) : WritesWithin W s u := by
  obtain ⟨f, hf, rfl⟩ := meaning_of_exec h
  exact r.meaning hf range

/-- A step writes within page one where the boundary takes an entry, and anywhere where it takes an instruction. -/
theorem step_writesWithin {s t : State} (h : step s = .next t) :
    WritesWithin (fun b => (boundary s).1 ≠ .instruction → hiByte b = 0x01#8) (boundary s).2 t := by
  have r := WritesWithin.refl (fun b => (boundary s).1 ≠ .instruction → hiByte b = 0x01#8) (boundary s).2
  have stack (k : Byte) (_ : (boundary s).1 ≠ .instruction) : hiByte (stackAddr k) = 0x01#8 := hiByte_stackAddr k
  rcases step_cases s t h with ⟨-, rfl⟩ | ⟨-, rfl⟩ | ⟨-, rfl⟩ | ⟨ev, i, s', hf, he⟩
  · exact r.resetEntry
  · exact (r.registers (u := (boundary s).2.setNmiPending false) rfl).enterInterrupt _ _ _ stack
  · exact r.enterInterrupt _ _ _ stack
  · exact (r.fetch hf).exec he fun _ _ entry => absurd ev entry

/-- A step draws values at its boundary; none is given back. -/
theorem draws_le_boundary (s : State) : s.draws ≤ (boundary s).2.draws := by
  have latched : s.draws ≤ (latchInputs s).draws := by
    rcases takeInputs_cases s with ⟨_, _, _, e⟩ | ⟨_, _, e⟩ | ⟨_, _, _, e⟩ <;> simp [latchInputs, e]
  have polled (u : State) : u.draws ≤ (iPoll u).2.draws := by
    unfold iPoll drawBit
    split <;> simp
  have decided (e : Inputs) (u : State) : u.draws ≤ (decideEvent e u).2.draws := by
    unfold decideEvent
    split_ifs <;> simp [polled]
  exact latched.trans (decided _ _)

end Sys2Proof.Safety

namespace Sys2Proof

open Sys2Proof.Machine Sys2Proof.Safety

/-- Settles O46: every write keeps the canonical form, and a boundary leaves storage alone. -/
theorem stepKeepsStorageCanonical : Obligations.StepKeepsStorageCanonical := by
  intro s t inv h
  exact (step_writesWithin h).wf (by rwa [boundary_mem])

/-- Settles O47: a byte that a step changes lies in `ram`. -/
theorem onlyRamEverChanges : Obligations.OnlyRamEverChanges := by
  intro s t h
  have w := step_writesWithin h
  refine ⟨w.bus.trans (boundary_bus s), fun a other => ?_⟩
  by_contra changed
  have ⟨ram, _⟩ := w.changed a (by rwa [State.peek_congr s _ (boundary_mem s)])
  exact other (by rwa [State.kindAt_congr s _ (boundary_bus s)] at ram)

/-- Settles O48: the boundary takes the inputs, and the entry or instruction after it draws and logs. -/
theorem stepTakesInputsAndExtendsTheTrace : Obligations.StepTakesInputsAndExtendsTheTrace := by
  intro s t h
  have w := step_writesWithin h
  obtain ⟨seen, e⟩ := w.trace
  exact ⟨w.env.trans (boundary_env s), w.envEnd.trans (boundary_envEnd s), (draws_le_boundary s).trans w.draws,
    ⟨seen, by rw [← e, boundary_ioTrace]⟩, fun free => (w.ioFree (free.congr (boundary_bus s))).trans (boundary_ioTrace s)⟩

/-- Settles O53: a byte that a stack instruction or an entry changes lies in page one. -/
theorem stackInstructionsWriteOnlyPageOne : Obligations.StackInstructionsWriteOnlyPageOne := by
  intro s t
  refine ⟨fun i mn h b outside => ?_, fun entry h b outside => ?_⟩
  · by_contra changed
    have ⟨_, within⟩ := ((WritesWithin.refl (writeRange i) s).exec h fun _ => id).changed b changed
    exact outside (within mn)
  · by_contra changed
    have ⟨_, within⟩ := (step_writesWithin h).changed b (by rwa [State.peek_congr s _ (boundary_mem s)])
    exact outside (within entry)

end Sys2Proof
end

section
/-! PROOF. Equal contents of storage are equal lists. -/

namespace Sys2Proof.Machine

/-- The canonical form, cell by cell. -/
theorem Memory.wfFrom_cons {lo a : Nat} {v : Byte} {r : Memory} :
    Memory.wfFrom lo ((a, v) :: r) = true ↔ lo ≤ a ∧ a < Memory.size ∧ v ≠ Memory.blank ∧ r.wfFrom (a + 1) = true := by
  simp [Memory.wfFrom, and_assoc]

@[simp] theorem Memory.read_cons_same (a : Nat) (v : Byte) (r : Memory) : Memory.read ((a, v) :: r) a = v := if_pos rfl

theorem Memory.read_cons_other {a k : Nat} (h : a ≠ k) (v : Byte) (r : Memory) : Memory.read ((a, v) :: r) k = r.read k := if_neg h

/-- Below its first cell storage reads as blank. -/
theorem Memory.read_below {m : Memory} {lo k : Nat} (w : m.wfFrom lo = true) (h : k < lo) : m.read k = Memory.blank := by
  induction m generalizing lo with
  | nil => rfl
  | cons c r ih =>
    obtain ⟨hlo, -, -, hr⟩ := Memory.wfFrom_cons.mp w
    rw [Memory.read_cons_other (by omega)]
    exact ih hr (by omega)

/-- A storage that reads like one with a first cell has a first cell too, and not a later one. -/
theorem Memory.exists_first_le {a lo lo' : Nat} {v : Byte} {r m : Memory} (w : Memory.wfFrom lo ((a, v) :: r) = true)
    (w' : m.wfFrom lo' = true) (e : ∀ k, Memory.read ((a, v) :: r) k = m.read k) : ∃ b u q, m = (b, u) :: q ∧ b ≤ a := by
  obtain ⟨-, -, listed, -⟩ := Memory.wfFrom_cons.mp w
  have ea := (Memory.read_cons_same a v r).symm.trans (e a)
  cases m with
  | nil => exact absurd ea listed
  | cons c q =>
    refine ⟨c.1, c.2, q, rfl, ?_⟩
    by_contra above
    have fromFirst : Memory.wfFrom c.1 (c :: q) = true := Memory.wfFrom_cons.mpr ⟨le_rfl, (Memory.wfFrom_cons.mp w').2⟩
    exact listed (ea.trans (Memory.read_below fromFirst (by omega)))

/-- Storages in canonical form that read alike are the same list: their first cells agree, and so do the rests. -/
theorem Memory.eq_of_read_eq {m m' : Memory} {lo : Nat} (w : m.wfFrom lo = true) (w' : m'.wfFrom lo = true)
    (e : ∀ k, m.read k = m'.read k) : m = m' := by
  induction m generalizing m' lo with
  | nil =>
    cases m' with
    | nil => rfl
    | cons c q =>
      obtain ⟨_, _, _, listed, _⟩ := Memory.exists_first_le w' w fun k => (e k).symm
      cases listed
  | cons c r ih =>
    obtain ⟨a, v⟩ := c
    obtain ⟨b, u, q, rfl, hba⟩ := Memory.exists_first_le w w' e
    obtain ⟨_, _, _, first, hab⟩ := Memory.exists_first_le w' w fun k => (e k).symm
    cases first
    obtain rfl : a = b := by omega
    obtain rfl : v = u := by simpa using e a
    obtain ⟨-, -, -, wr⟩ := Memory.wfFrom_cons.mp w
    obtain ⟨-, -, -, wq⟩ := Memory.wfFrom_cons.mp w'
    rw [ih wr wq fun k => ?_]
    by_cases h : a = k
    · rw [Memory.read_below wr (by omega), Memory.read_below wq (by omega)]
    · simpa only [Memory.read_cons_other h] using e k

end Sys2Proof.Machine

namespace Sys2Proof

open Sys2Proof.Machine Sys2Proof.Safety

/-- Settles O7. -/
theorem equalContentsAreEqualMemories : Obligations.EqualContentsAreEqualMemories :=
  fun _ _ w w' e => Memory.eq_of_read_eq w w' e

end Sys2Proof
end

section
/-! PROOF. One access at each region kind, the pointer reads and the stack primitives. -/

namespace Sys2Proof

/-! Addresses as numbers. -/

theorem mkAddr_toNat (h l : Byte) : (mkAddr h l).toNat = h.toNat * 256 + l.toNat := by
  have concat : (mkAddr h l).toNat = h.toNat <<< 8 ||| l.toNat := BitVec.toNat_append h l
  rw [concat, ← Nat.shiftLeft_add_eq_or_of_lt l.isLt, Nat.shiftLeft_eq]

theorem hiByte_toNat (a : Addr) : (hiByte a).toNat = a.toNat / 256 := by
  have := a.isLt
  simp [hiByte, BitVec.extractLsb'_toNat, Nat.shiftRight_eq_div_pow]
  omega

theorem loByte_toNat (a : Addr) : (loByte a).toNat = a.toNat % 256 := by
  simp [loByte, BitVec.extractLsb'_toNat]

theorem zeroPage_toNat (p : Byte) : (zeroPage p).toNat = p.toNat := by
  simp [zeroPage, mkAddr_toNat]

theorem stackAddr_toNat (sp : Byte) : (stackAddr sp).toNat = 256 + sp.toNat := by
  simp [stackAddr, mkAddr_toNat]

theorem nextInPage_toNat (a : Addr) : (nextInPage a).toNat = a.toNat / 256 * 256 + (a.toNat % 256 + 1) % 256 := by
  simp [nextInPage, mkAddr_toNat, hiByte_toNat, loByte_toNat, BitVec.toNat_add]

end Sys2Proof

namespace Sys2Proof.Machine

open Sys2Proof.Safety

/-! The pointer reads from storage. -/

section
variable {s : State}

theorem read16_stored {a : Addr} (lo : Stored s a) (hi : Stored s (a + 1)) :
    read16 a s = (mkAddr (s.peek (a + 1)) (s.peek a), s) := by
  simp only [read16, memRead_stored _ s lo, memRead_stored _ s hi]

theorem read16zp_stored {p : Byte} (lo : Stored s (zeroPage p)) (hi : Stored s (zeroPage (p + 1))) :
    read16zp p s = (mkAddr (s.peek (zeroPage (p + 1))) (s.peek (zeroPage p)), s) := by
  simp only [read16zp, memRead_stored _ s lo, memRead_stored _ s hi]

theorem read16page_stored {a : Addr} (lo : Stored s a) (hi : Stored s (nextInPage a)) :
    read16page a s = (mkAddr (s.peek (nextInPage a)) (s.peek a), s) := by
  simp only [read16page, memRead_stored _ s lo, memRead_stored _ s hi]

end

/-! The stack primitives. -/

/-- S does not matter to a read. -/
theorem memRead_setSp (a : Addr) (v : Byte) (s : State) :
    memRead a (s.setSp v) = ((memRead a s).1, (memRead a s).2.setSp v) := by
  have kind : (s.setSp v).kindAt a = s.kindAt a := rfl
  unfold memRead
  rw [kind]
  cases s.kindAt a with
  | ram | rom | io | unmapped => rfl

/-- A pull is the read at the location above S, with S raised. -/
theorem pull_eq (s : State) :
    pull s = ((memRead (stackAddr (s.sp + 1)) s).1, (memRead (stackAddr (s.sp + 1)) s).2.setSp (s.sp + 1)) :=
  memRead_setSp _ _ s

theorem pull_stored {s : State} (h : Stored s (stackAddr (s.sp + 1))) :
    pull s = (s.peek (stackAddr (s.sp + 1)), s.setSp (s.sp + 1)) := by
  rw [pull_eq, memRead_stored _ s h]

/-- A push changes S, storage and the `io` trace, nothing else. -/
theorem push_frame (v : Byte) (s : State) :
    push v s = { s with sp := s.sp - 1, mem := (push v s).mem, ioTrace := ioWritten s [(stackAddr s.sp, v)] ++ s.ioTrace } := by
  apply State.ext <;> simp [push_ioTrace]

end Sys2Proof.Machine

namespace Sys2Proof

open Sys2Proof.Machine Sys2Proof.Safety

/-- Settles O6, along the four region kinds. -/
theorem regionKindsDecideReadsAndWrites : Obligations.RegionKindsDecideReadsAndWrites := by
  intro a v s
  refine ⟨fun ram => ?_, fun rom => ?_, fun io => ?_, fun unmapped => ?_⟩
  · exact ⟨by rw [memRead_stored a s (by rw [ram]; rfl)]; rfl, by simp only [memWrite, ram]; rfl⟩
  · exact ⟨by rw [memRead_stored a s (by rw [rom]; rfl)]; rfl, by simp only [memWrite, rom]⟩
  · exact ⟨⟨Config.freeByte s.draws, by simp only [memRead, io]; rfl⟩, by simp only [memWrite, io]; rfl⟩
  · exact ⟨⟨Config.freeByte s.draws, by simp only [memRead, unmapped]; rfl⟩, by simp only [memWrite, unmapped]⟩

/-- Settles O8. -/
theorem pointerReadsWrapAsTheirKindSays : Obligations.PointerReadsWrapAsTheirKindSays :=
  fun a p _ => ⟨read16_stored, read16zp_stored, read16page_stored, nextInPage_toNat a, zeroPage_toNat (p + 1)⟩

/-- Settles O9. -/
theorem stackPrimitivesStayInPageOne : Obligations.StackPrimitivesStayInPageOne := fun v s =>
  ⟨stackAddr_toNat s.sp, peek_push v s, push_frame v s, by rw [pull_eq], by rw [pull_eq]; rfl, pull_stored⟩

end Sys2Proof
end

section
/-! PROOF. A fetch decodes storage as it stands, so a store is seen by the next one. -/

namespace Sys2Proof

/-- The format of an instruction (30_encoding.md R81): what the opcode table has at its opcode byte, and the bytes it stands in. -/
inductive EncodedAs (i : Instr) : Prop
  | f1 (table : formatOf i.opcode = .f1 i) (bytes : encode i = [i.opcode])
  | f2 {make : Byte → Instr} (n : Byte) (table : formatOf i.opcode = .f2 make) (made : make n = i) (bytes : encode i = [i.opcode, n])
  | f3 {make : Addr → Instr} (a : Addr) (table : formatOf i.opcode = .f3 make) (made : make a = i)
    (bytes : encode i = [i.opcode, loByte a, hiByte a])

/-- The opcode table has every instruction at its own opcode byte. -/
theorem encodedAs (i : Instr) : EncodedAs i := by
  cases i with
  | aslAcc | lsrAcc | rolAcc | rorAcc | rts | rti | inx | dex | iny | dey | tax | txa | tay | tya | tsx | txs | clc | sec | cld | sed
  | cli | sei | clv | pha | pla | php | plp | nop | brk => exact .f1 rfl rfl
  | ldaImm n | ldaZp n | ldaZpx n | ldaIzx n | ldaIzy n | ldxImm n | ldxZp n | ldxZpy n | ldyImm n | ldyZp n | ldyZpx n | staZp n
  | staZpx n | staIzx n | staIzy n | stxZp n | stxZpy n | styZp n | styZpx n | cmpImm n | cmpZp n | cmpZpx n | cmpIzx n | cmpIzy n
  | cpxImm n | cpxZp n | cpyImm n | cpyZp n | bpl n | bmi n | bvc n | bvs n | bcc n | bcs n | bne n | beq n | aslZp n | aslZpx n
  | lsrZp n | lsrZpx n | rolZp n | rolZpx n | rorZp n | rorZpx n | incZp n | incZpx n | decZp n | decZpx n | adcImm n | adcZp n
  | adcZpx n | adcIzx n | adcIzy n | sbcImm n | sbcZp n | sbcZpx n | sbcIzx n | sbcIzy n | bitZp n | andImm n | andZp n | andZpx n
  | andIzx n | andIzy n | oraImm n | oraZp n | oraZpx n | oraIzx n | oraIzy n | eorImm n | eorZp n | eorZpx n | eorIzx n
  | eorIzy n => exact .f2 n (by rw [Instr.opcode]; rfl) rfl rfl
  | ldaAbs a | ldaAbx a | ldaAby a | ldxAbs a | ldxAby a | ldyAbs a | ldyAbx a | staAbs a | staAbx a | staAby a | stxAbs a | styAbs a
  | cmpAbs a | cmpAbx a | cmpAby a | cpxAbs a | cpyAbs a | aslAbs a | aslAbx a | lsrAbs a | lsrAbx a | rolAbs a | rolAbx a | rorAbs a
  | rorAbx a | jsrAbs a | jmpAbs a | jmpInd a | incAbs a | incAbx a | decAbs a | decAbx a | adcAbs a | adcAbx a | adcAby a | sbcAbs a
  | sbcAbx a | sbcAby a | bitAbs a | andAbs a | andAbx a | andAby a | oraAbs a | oraAbx a | oraAby a | eorAbs a | eorAbx a
  | eorAby a => exact .f3 a (by rw [Instr.opcode]; rfl) rfl rfl

/-- An instruction is at most three bytes long (30_encoding.md R82). -/
theorem length_encode_le (i : Instr) : (encode i).length ≤ 3 := by
  rcases encodedAs i with ⟨-, bytes⟩ | ⟨_, -, -, bytes⟩ | ⟨_, -, -, bytes⟩ <;> simp [bytes]

/-- Going on by fewer than 65536 bytes does not come back. -/
theorem add_ofNat_ne_self (a : Addr) {n : Nat} (pos : 0 < n) (short : n < 65536) : a + BitVec.ofNat 16 n ≠ a := by
  intro e
  have := congrArg BitVec.toNat e
  rw [BitVec.toNat_add, BitVec.toNat_ofNat] at this
  omega

end Sys2Proof

namespace Sys2Proof.Safety

open Sys2Proof.Machine

/-- The bytes `bs` lie stored from `a` on. -/
def StoredAt (s : State) (a : Addr) (bs : List Byte) : Prop :=
  ∀ (k : Nat) (b : Byte), bs[k]? = some b → Stored s (a + BitVec.ofNat 16 k) ∧ s.peek (a + BitVec.ofNat 16 k) = b

/-- The bytes from `a` on are the one at `a` and those after it. -/
theorem StoredAt.cons {s : State} {a : Addr} {b : Byte} {bs : List Byte} (stored : Stored s a) (here : s.peek a = b)
    (after : ∀ (k : Nat) (c : Byte), bs[k]? = some c →
      Stored s (a + BitVec.ofNat 16 (k + 1)) ∧ s.peek (a + BitVec.ofNat 16 (k + 1)) = c) : StoredAt s a (b :: bs) := by
  intro k c hc
  cases k with
  | zero =>
    obtain rfl : b = c := by simpa using hc
    simpa using And.intro stored here
  | succ k => exact after k c (by simpa using hc)

/-- A read of one of the bytes is pure and answers it. -/
theorem StoredAt.memRead {s : State} {a : Addr} {bs : List Byte} (h : StoredAt s a bs) (k : Nat) {b : Byte} (hb : bs[k]? = some b) :
    memRead (a + BitVec.ofNat 16 k) s = (b, s) := by
  obtain ⟨stored, rfl⟩ := h k b hb
  exact memRead_stored _ s stored

/-- An instruction whose bytes lie stored at pc is fetched, and the fetch changes nothing. -/
theorem StoredAt.fetch {s : State} {i : Instr} (h : StoredAt s s.pc (encode i)) : fetch s = .ok (i, s) := by
  have opcode : Machine.memRead s.pc s = (i.opcode, s) := by simpa using h.memRead 0 (b := i.opcode) rfl
  rcases encodedAs i with ⟨table, -⟩ | ⟨n, table, made, bytes⟩ | ⟨a, table, made, bytes⟩
  · simp only [Machine.fetch, opcode, table]
  · have operand : Machine.memRead (s.pc + 1) s = (n, s) := h.memRead 1 (by simp [bytes])
    simp only [Machine.fetch, opcode, table, operand, made]
  · have low : Machine.memRead (s.pc + 1) s = (loByte a, s) := h.memRead 1 (by simp [bytes])
    have high : Machine.memRead (s.pc + 2) s = (hiByte a, s) := h.memRead 2 (by simp [bytes])
    simp only [Machine.fetch, opcode, table, low, high, mkAddr_hiByte_loByte, made]

/-- The operand of an instruction with a memory operand. -/
theorem operand_of_memOf {i : Instr} {m : MemMode} (h : memOf i = some m) : i.operand = .mem m := by
  unfold memOf at h
  split at h <;> simp_all

/-- STA, STX and STY store their register at their operand's effective address (40_load_store.md R123 to R125). -/
theorem exec_store {i : Instr} {s : State} {m : MemMode} {v : Byte}
    (reg : (i.mnemonic = .sta ∧ v = s.a) ∨ (i.mnemonic = .stx ∧ v = s.x) ∨ (i.mnemonic = .sty ∧ v = s.y)) (op : memOf i = some m) :
    exec i s = .next (storeByte v m s) := by
  obtain ⟨f, hf, e⟩ := exec_meaning i
  rw [e]
  cases hf with
  | sta mn op' | stx mn op' | sty mn op' =>
    obtain rfl := Operand.mem.inj (op'.symm.trans (operand_of_memOf op))
    obtain rfl : v = _ := by simpa [mn] using reg
    rfl
  | lda mn | ldx mn | ldy mn | cmp mn | cpx mn | cpy mn | aslMem mn | lsrMem mn | rolMem mn | rorMem mn | inc mn | dec mn | adc mn
  | sbc mn | bit mn | and mn | ora mn | eor mn => simp [mn] at reg
  | branch cls => rcases reg with ⟨mn, -⟩ | ⟨mn, -⟩ | ⟨mn, -⟩ <;> simp [mn, accessClass] at cls
  | aslAcc | lsrAcc | rolAcc | rorAcc | jsr | rts | jmpAbs | jmpInd | rti | inx | dex | iny | dey | tax | txa | tay | tya | tsx | txs
  | clc | sec | cld | sed | cli | sei | clv | pha | pla | php | plp | nop | brk => simp [Instr.mnemonic, Instr.line] at reg

end Sys2Proof.Safety

namespace Sys2Proof.Machine

open Sys2Proof.Safety

/-! A store. -/

@[simp] theorem storeByte_pc (v : Byte) (m : MemMode) (s : State) : (storeByte v m s).pc = s.pc + BitVec.ofNat 16 (memLength m) := by
  simp [storeByte]

@[simp] theorem storeByte_bus (v : Byte) (m : MemMode) (s : State) : (storeByte v m s).bus = s.bus := by
  simp [storeByte]

/-- What a store leaves at every address. -/
theorem peek_storeByte (v : Byte) (m : MemMode) (s : State) (b : Addr) :
    (storeByte v m s).peek b = if b = (effAddr m s).1 ∧ s.kindAt (effAddr m s).1 = .ram then v else s.peek b := by
  have kind : (effAddr m s).2.kindAt (effAddr m s).1 = s.kindAt (effAddr m s).1 := State.kindAt_congr s _ (effAddr_bus m s) _
  have same : (effAddr m s).2.peek b = s.peek b := State.peek_congr s _ (effAddr_mem m s) b
  rw [← kind, ← same, ← peek_memWrite]
  exact State.peek_congr _ _ (advance_mem _ _) b

end Sys2Proof.Machine

namespace Sys2Proof

open Sys2Proof.Machine Sys2Proof.Safety

/-- Settles O57: after the store the bytes of the next instruction lie stored at pc, the first of them the byte just written. -/
theorem storeIsSeenByTheNextFetch : Obligations.StoreIsSeenByTheNextFetch := by
  refine ⟨fun t j => StoredAt.fetch, fun s i j m v reg op next ram opcode after => ⟨storeByte v m s, exec_store reg op, ?_⟩⟩
  have kind b : (storeByte v m s).kindAt b = s.kindAt b := State.kindAt_congr s _ (storeByte_bus v m s) b
  have length : i.length = memLength m := congrArg (fun o : Operand => o.mode.length) (operand_of_memOf op)
  have pc : (storeByte v m s).pc = (effAddr m s).1 := by rw [storeByte_pc, next, length]
  apply StoredAt.fetch
  rw [pc]
  refine .cons ?_ ?_ fun k b hb => ?_
  · simp only [Stored, kind, ram]; rfl
  · rw [peek_storeByte, if_pos ⟨rfl, ram⟩, opcode]
  · obtain ⟨inside, -⟩ := List.getElem?_eq_some_iff.mp (show (encode j)[k + 1]? = some b from hb)
    have short := length_encode_le j
    have other := add_ofNat_ne_self (effAddr m s).1 (Nat.succ_pos k) (by omega)
    obtain ⟨stored, here⟩ := after k b hb
    refine ⟨by rwa [Stored, kind], ?_⟩
    rw [peek_storeByte, if_neg fun h => other h.1, here]

end Sys2Proof
end

section
/-! PROOF. The decoder and the encoder undo each other, and the assembler's lines are those of the table. -/

namespace Sys2Proof

/-! The opcode table, from the byte to the instruction (`encodedAs` is the other direction). -/

/-- The instruction an entry of the opcode table makes of a one-byte operand `n` or a two-byte operand `a`. -/
def Format.instr? (n : Byte) (a : Addr) : Format → Option Instr
  | .f1 i => some i
  | .f2 make => some (make n)
  | .f3 make => some (make a)
  | .unlisted => none

/-- The bytes in which an entry of the opcode table at `op` stands with those operands (30_encoding.md R81). -/
def Format.bytes? (op n : Byte) (a : Addr) : Format → Option (List Byte)
  | .f1 _ => some [op]
  | .f2 _ => some [op, n]
  | .f3 _ => some [op, loByte a, hiByte a]
  | .unlisted => none

/-- A property of bytes can be checked byte by byte. -/
theorem Byte.forall_of_lt {P : Byte → Prop} (h : ∀ k < 256, P (BitVec.ofNat 8 k)) (op : Byte) : P op := by
  simpa using h op.toNat op.isLt

/-- The entry of the table at a byte is encoded with that byte: no instruction stands at a byte that is not its own. -/
theorem encode_formatOf (op n : Byte) (a : Addr) : ((formatOf op).instr? n a).map encode = (formatOf op).bytes? op n a := by
  induction op using Byte.forall_of_lt with
  | h k hk => interval_cases k <;> rfl

theorem encode_of_f1 {op : Byte} {i : Instr} (entry : formatOf op = .f1 i) : encode i = [op] := by
  simpa [entry, Format.instr?, Format.bytes?] using encode_formatOf op 0 0

theorem encode_of_f2 {op : Byte} {make : Byte → Instr} (entry : formatOf op = .f2 make) (n : Byte) : encode (make n) = [op, n] := by
  simpa [entry, Format.instr?, Format.bytes?] using encode_formatOf op n 0

theorem encode_of_f3 {op : Byte} {make : Addr → Instr} (entry : formatOf op = .f3 make) (a : Addr) :
    encode (make a) = [op, loByte a, hiByte a] := by
  simpa [entry, Format.instr?, Format.bytes?] using encode_formatOf op 0 a

/-- The operand of a mode with operand byte `n` or 16-bit operand `a`. -/
def Mode.operand (n : Byte) (a : Addr) : Mode → Operand
  | .imp => .imp
  | .acc => .acc
  | .imm => .imm n
  | .zp => .mem (.zp n)
  | .zpx => .mem (.zpx n)
  | .zpy => .mem (.zpy n)
  | .abs => .mem (.abs a)
  | .abx => .mem (.abx a)
  | .aby => .mem (.aby a)
  | .ind => .ind a
  | .izx => .mem (.izx n)
  | .izy => .mem (.izy n)
  | .rel => .rel n

/-- Every operand is its mode's with some operand bytes. -/
theorem Operand.exists_mode_operand (o : Operand) : ∃ n a, o = o.mode.operand n a := by
  cases o with
  | imp | acc => exact ⟨0, 0, rfl⟩
  | imm n | rel n => exact ⟨n, 0, rfl⟩
  | ind a => exact ⟨0, a, rfl⟩
  | mem m =>
    cases m with
    | zp n | zpx n | zpy n | izx n | izy n => exact ⟨n, 0, rfl⟩
    | abs a | abx a | aby a => exact ⟨0, a, rfl⟩

/-- An entry of the table fixes the mnemonic and the mode, and takes every operand of the mode. -/
theorem line_of_entry {f : Format} (entry : f ∈ opcodeMatrix.flatten) (n : Byte) (a : Addr) :
    (f.instr? n a).map Instr.line = (f.instr? 0 0).map fun i => ⟨i.mnemonic, i.mode.operand n a⟩ := by
  obtain ⟨row, matrix, entry⟩ := List.mem_flatten.mp entry
  have table : row.map (fun f => (f.instr? n a).map Instr.line) =
      row.map fun f => (f.instr? 0 0).map fun i => ⟨i.mnemonic, i.mode.operand n a⟩ := by
    fin_cases matrix <;> rfl
  exact List.map_inj_left.mp table f entry

/-- The rows of the table: the mnemonic and mode of each opcode byte that has one. -/
def tableRows : List (Mnemonic × Mode) :=
  opcodeMatrix.flatten.filterMap fun f => (f.instr? 0 0).map fun i => (i.mnemonic, i.mode)

/-- Every mode the assembler's check allows a mnemonic is a row of the table. -/
theorem mem_tableRows {mn : Mnemonic} {md : Mode} (h : md ∈ mn.modes) : (mn, md) ∈ tableRows := by
  have all : ∀ md ∈ mn.modes, (mn, md) ∈ tableRows := by cases mn <;> decide +kernel
  exact all md h

/-- Every instruction stands under a mode of its mnemonic. -/
theorem Instr.line_wf (i : Instr) : i.line.wf = true := by
  cases i <;> rfl

end Sys2Proof

namespace Sys2Proof

open Sys2Proof.Machine Sys2Proof.Safety

/-- Settles O1, along the three formats. -/
theorem decodeOfEncodeIsTheInstruction : Obligations.DecodeOfEncodeIsTheInstruction := by
  intro i rest _
  rcases encodedAs i with ⟨table, bytes⟩ | ⟨n, table, made, bytes⟩ | ⟨a, table, made, bytes⟩
  · simp only [bytes, List.cons_append, List.nil_append, decode, table]
  · simp only [bytes, List.cons_append, List.nil_append, decode, table, made]
  · simp only [bytes, List.cons_append, List.nil_append, decode, table, mkAddr_hiByte_loByte, made]

/-- Settles O3: each word is the encoding of its instruction. -/
theorem sampleWordsDecode : Obligations.SampleWordsDecode := by
  have words {i : Instr} {bs : List Byte} (word : encode i = bs) : decode bs = .ok (i, []) := by
    simpa [word] using decodeOfEncodeIsTheInstruction i [] i.line_wf
  exact ⟨words rfl, words rfl, words rfl, words rfl, words rfl, words rfl, words rfl, words rfl, words rfl, words rfl⟩

/-- Settles O2: the decoder takes the bytes of the table's entry at the first byte, and those are the encoding. -/
theorem encodeOfDecodeIsTheBytes : Obligations.EncodeOfDecodeIsTheBytes := by
  intro bs rest i h
  cases bs with
  | nil => simp [decode] at h
  | cons op tail =>
    cases entry : formatOf op with
    | unlisted => simp [decode, entry] at h
    | f1 j =>
      obtain ⟨rfl, rfl⟩ : j = i ∧ tail = rest := by simpa [decode, entry] using h
      rw [encode_of_f1 entry, List.singleton_append]
    | f2 make =>
      cases tail with
      | nil => simp [decode, entry] at h
      | cons n tail =>
        obtain ⟨rfl, rfl⟩ : make n = i ∧ tail = rest := by simpa [decode, entry] using h
        simp [encode_of_f2 entry]
    | f3 make =>
      match tail with
      | [] | [_] => simp [decode, entry] at h
      | lo :: hi :: tail =>
        obtain ⟨rfl, rfl⟩ : make (mkAddr hi lo) = i ∧ tail = rest := by simpa [decode, entry] using h
        simp [encode_of_f3 entry]

/-- Settles O4: a well-formed line is that of a row with its operand bytes. -/
theorem linesOfTheTableAreTheWellFormedOnes : Obligations.LinesOfTheTableAreTheWellFormedOnes := by
  rintro ⟨mn, o⟩
  refine ⟨fun wf => ?_, fun ⟨i, e⟩ => e ▸ i.line_wf⟩
  obtain ⟨n, a, operand⟩ := o.exists_mode_operand
  have row : (mn, o.mode) ∈ tableRows := mem_tableRows (by simpa [Line.wf] using wf)
  obtain ⟨f, entry, made⟩ := List.mem_filterMap.mp row
  obtain ⟨j, made, same⟩ := Option.map_eq_some_iff.mp made
  have line := line_of_entry entry n a
  rw [made, Option.map_some] at line
  obtain ⟨i, -, e⟩ := Option.map_eq_some_iff.mp line
  obtain ⟨rfl, mode⟩ := Prod.mk.inj same
  exact ⟨i, by rw [e, mode, ← operand]⟩

end Sys2Proof
end

section
/-! PROOF. Branch targets and effective addresses as numbers. -/

namespace Sys2Proof

/-! A displacement as a number. -/

theorem sext16_toInt (d : Byte) : (sext16 d).toInt = d.toInt := BitVec.toInt_signExtend_of_le (by decide)

/-- A distance of -128..+127 is the sign extension of its low byte. -/
theorem sext16_loByte {x : Addr} (low : -128 ≤ x.toInt) (high : x.toInt ≤ 127) : sext16 (loByte x) = x := by
  apply BitVec.eq_of_toInt_eq
  rw [sext16_toInt]
  simp only [BitVec.toInt_eq_toNat_bmod, Int.bmod_def, loByte_toNat] at low high ⊢
  omega

theorem zext16_toNat (v : Byte) : (zext16 v).toNat = v.toNat := by
  simpa [zext16] using v.isLt.trans (by decide : 2 ^ 8 < 65536)

end Sys2Proof

namespace Sys2Proof.Machine

/-- A branch target is its displacement away from the next instruction. -/
theorem branchTarget_sub (pc0 : Addr) (d : Byte) : branchTarget pc0 d - (pc0 + 2) = sext16 d := by
  simp [branchTarget]

/-- Every displacement leads to a target in range (30_encoding.md R95). -/
theorem branchReaches_branchTarget (pc0 : Addr) (d : Byte) : branchReaches pc0 (branchTarget pc0 d) = true := by
  have low := d.le_toInt
  have high := d.toInt_lt
  simp only [branchReaches, branchTarget_sub, sext16_toInt, Bool.and_eq_true, decide_eq_true_eq]
  omega

/-- The low byte of the distance leads to a target in range. -/
theorem branchTarget_loByte {pc0 target : Addr} (h : branchReaches pc0 target = true) :
    branchTarget pc0 (loByte (target - (pc0 + 2))) = target := by
  simp only [branchReaches, Bool.and_eq_true, decide_eq_true_eq] at h
  obtain ⟨low, high⟩ := h
  rw [branchTarget, sext16_loByte low high, BitVec.add_comm, BitVec.sub_add_cancel]

end Sys2Proof.Machine

namespace Sys2Proof

open Sys2Proof.Machine Sys2Proof.Safety

/-- Settles O5: the displacement is the low byte of the distance, whose sign extension is the distance. -/
theorem branchDisplacementReachesItsTarget : Obligations.BranchDisplacementReachesItsTarget := by
  intro pc0 target d
  refine ⟨fun inside => ?_, branchReaches_branchTarget pc0 d, fun outside => ⟨?_, ?_⟩⟩
  · exact ⟨_, if_pos inside, branchTarget_loByte inside⟩
  · simp [branchDisplacement, outside]
  · rintro rfl
    simp [branchReaches_branchTarget] at outside

/-- Settles O10. -/
theorem effectiveAddressesOfTheDirectModes : Obligations.EffectiveAddressesOfTheDirectModes := by
  intro n a s
  refine ⟨⟨zeroPage_toNat n, rfl⟩, ⟨?_, rfl⟩, ⟨?_, rfl⟩, ⟨rfl, rfl⟩, ⟨?_, rfl⟩, ⟨?_, rfl⟩⟩ <;>
    simp only [effAddr, zeroPage_toNat, zext16_toNat, BitVec.toNat_add]

/-- Settles O11: the pointer is read from storage, low byte first. -/
theorem effectiveAddressesOfTheIndirectModes : Obligations.EffectiveAddressesOfTheIndirectModes := by
  intro n s
  refine ⟨fun lo hi => ?_, fun lo hi => ?_⟩
  · simp only [effAddr, read16zp_stored lo hi, mkAddr_toNat, Nat.mul_comm, and_self]
  · simp only [effAddr, read16zp_stored lo hi, BitVec.toNat_add, mkAddr_toNat, zext16_toNat, Nat.mul_comm, and_self]

/-- Settles O60: the pointer of an indirect mode is `Read16zp`, two reads one after the other. -/
theorem operandsAreReadAtTheirEffectiveAddress : Obligations.OperandsAreReadAtTheirEffectiveAddress :=
  fun _ _ _ => ⟨rfl, rfl, rfl, rfl⟩

end Sys2Proof
end

section
/-! PROOF. A step with no request runs the instruction at pc or refuses an unlisted byte, and pc moves by the instruction's length. -/

namespace Sys2Proof

/-! Lengths. -/

/-- A mode's length is one more than the number of its operand bytes (30_encoding.md R82). -/
theorem Operand.length_mode (o : Operand) : o.mode.length = o.bytes.length + 1 := by
  cases o with
  | imp | acc | imm _ | ind _ | rel _ => rfl
  | mem m => cases m with
    | zp _ | zpx _ | zpy _ | abs _ | abx _ | aby _ | izx _ | izy _ => rfl

/-- An instruction is encoded in as many bytes as its mode says. -/
theorem length_encode (i : Instr) : (encode i).length = i.length := i.operand.length_mode.symm

/-- The table has nothing at exactly the 105 bytes of 30_encoding.md R98. -/
theorem formatOf_eq_unlisted_iff (op : Byte) : formatOf op = .unlisted ↔ op ∈ Safety.unlistedBytes := by
  have nothing : ((formatOf op).instr? 0 0).isNone = true ↔ formatOf op = .unlisted := by
    cases formatOf op <;> simp [Format.instr?]
  have table : ((List.range 256).map (BitVec.ofNat 8)).filter (fun op => ((formatOf op).instr? 0 0).isNone) = Safety.unlistedBytes := by
    decide +kernel
  have listed : op ∈ (List.range 256).map (BitVec.ofNat 8) := List.mem_map.mpr ⟨op.toNat, List.mem_range.mpr op.isLt, by simp⟩
  rw [← table, List.mem_filter, nothing, and_iff_right listed]

end Sys2Proof

namespace Sys2Proof.Machine

open Sys2Proof.Safety

/-- A boundary without a request asks for an instruction (60_exceptions.md R304). -/
theorem quietBoundary_of_noRequest {s : State} (h : NoRequest s ∨ QuietBoundary s) : QuietBoundary s := by
  rcases h with ⟨reset, latched, edge, irq⟩ | quiet
  · simp [QuietBoundary, boundary_event, reset, latched, edge, irq]
  · exact quiet

/-- Where the boundary asks for an instruction, the step executes it. -/
theorem step_of_quietBoundary {s : State} (h : QuietBoundary s) : step s = executeInstruction (boundary s).2 := by
  have b : boundary s = (.instruction, (boundary s).2) := Prod.ext h rfl
  rw [step, runStep, b]

/-- A boundary that asks for an instruction changes what it takes from the environment and forgets the previous instruction. -/
theorem boundary_frame {s : State} (h : QuietBoundary s) :
    (boundary s).2 = { s with nmiPending := false, iBefore := none, env := s.env.tail, draws := (boundary s).2.draws } := by
  apply State.ext <;> simp [boundary_nmiPending s (.inl h)]

theorem executeInstruction_of_fetch {s s' : State} {i : Instr} (h : fetch s = .ok (i, s')) : executeInstruction s = exec i s' := by
  simp only [executeInstruction, h]

/-- A fetch is refused for an unlisted byte. -/
theorem fetch_unlisted {s : State} (h : (memRead s.pc s).1 ∈ unlistedBytes) :
    fetch s = .error (.illegalOpcode (memRead s.pc s).1 s.pc) := by
  simp only [fetch, (formatOf_eq_unlisted_iff _).mpr h]

/-- A fetch answers an instruction for every other byte. -/
theorem fetch_listed {s : State} (h : (memRead s.pc s).1 ∉ unlistedBytes) : ∃ i s', fetch s = .ok (i, s') := by
  rw [← formatOf_eq_unlisted_iff] at h
  cases entry : formatOf (memRead s.pc s).1 with
  | unlisted => exact absurd entry h
  | f1 _ | f2 _ | f3 _ => simp [fetch, entry]

/-! The program counter. -/

/-- The instructions that load pc themselves (30_encoding.md R104). -/
def pcLoaders : List Mnemonic := [.bpl, .bmi, .bvc, .bvs, .bcc, .bcs, .bne, .beq, .jmp, .jsr, .rts, .rti, .brk]

theorem mem_pcLoaders_of_branch {m : Mnemonic} (h : accessClass m = .branch) : m ∈ pcLoaders := by
  cases m <;> simp [accessClass, pcLoaders] at h ⊢

theorem sourceLength_of_sourceOf {i : Instr} {src : Source} (h : sourceOf i = some src) : sourceLength src = i.length := by
  unfold sourceOf at h
  split at h <;> cases h <;> next op => exact congrArg (fun o : Operand => o.mode.length) op.symm

theorem memLength_of_operand {i : Instr} {m : MemMode} (h : i.operand = .mem m) : memLength m = i.length :=
  congrArg (fun o : Operand => o.mode.length) h.symm

/-- Every meaning but that of an instruction that loads pc moves it by the instruction's length. -/
theorem Meaning.pc {i : Instr} {f : State → State} (h : Meaning i f) (other : i.mnemonic ∉ pcLoaders) (s : State) :
    (f s).pc = s.pc + BitVec.ofNat 16 i.length := by
  cases h with
  | lda _ op => simp [loadA, sourceLength_of_sourceOf op]
  | ldx _ op => simp [loadX, sourceLength_of_sourceOf op]
  | ldy _ op => simp [loadY, sourceLength_of_sourceOf op]
  | cmp _ op | cpx _ op | cpy _ op => simp [compareWith, sourceLength_of_sourceOf op]
  | adc _ op => simp [addWithCarry, sourceLength_of_sourceOf op]
  | sbc _ op => simp [subWithCarry, sourceLength_of_sourceOf op]
  | and _ op | ora _ op | eor _ op => simp [logic, sourceLength_of_sourceOf op]
  | sta _ op | stx _ op | sty _ op => simp [memLength_of_operand op]
  | bit _ op => simp [testBits, memLength_of_operand op]
  | aslMem _ op | lsrMem _ op | rolMem _ op | rorMem _ op => simp [shiftBy, targetLength, memLength_of_operand op]
  | inc _ op | dec _ op => simp [modifyMem, memLength_of_operand op]
  | pha | php | pla | plp => simp [Instr.length, Instr.mode, Instr.line, Operand.mode, Mode.length]
  | aslAcc | lsrAcc | rolAcc | rorAcc | inx | dex | iny | dey | tax | txa | tay | tya | tsx | txs | clc | sec | cld | sed | cli | sei
  | clv | nop => rfl
  | branch cls => exact absurd (mem_pcLoaders_of_branch cls) other
  | jsr | rts | jmpAbs | jmpInd | rti | brk => simp [pcLoaders, Instr.mnemonic, Instr.line] at other

end Sys2Proof.Machine

namespace Sys2Proof

open Sys2Proof.Machine Sys2Proof.Safety

/-- Settles O37: the boundary leaves storage, the map and pc alone, so the fetch finds the bytes. -/
theorem stepRunsTheDecodedInstruction : Obligations.StepRunsTheDecodedInstruction := by
  intro s i none _ bytes
  have quiet := quietBoundary_of_noRequest none
  refine ⟨?_, boundary_frame quiet⟩
  have stored : StoredAt (boundary s).2 (boundary s).2.pc (encode i) := by
    intro k b hb
    rw [boundary_pc, Stored, State.kindAt_congr s _ (boundary_bus s), State.peek_congr s _ (boundary_mem s)]
    exact bytes k b hb
  rw [step_of_quietBoundary quiet, executeInstruction_of_fetch stored.fetch]

/-- Settles O38: only the fetch refuses, and every instruction it answers has a meaning. -/
theorem onlyUnlistedBytesAreRefused : Obligations.OnlyUnlistedBytesAreRefused := by
  intro s none
  rw [step_of_quietBoundary (quietBoundary_of_noRequest none), ← boundary_pc s]
  refine ⟨fun unlisted => ?_, fun listed => ?_⟩
  · simp only [executeInstruction, fetch_unlisted unlisted]
  · obtain ⟨i, s', fetched⟩ := fetch_listed listed
    obtain ⟨f, -, runs⟩ := exec_meaning i
    exact ⟨f s', by rw [executeInstruction_of_fetch fetched, runs]⟩

/-- Settles O51, along the meanings. -/
theorem otherInstructionsAdvanceByTheirLength : Obligations.OtherInstructionsAdvanceByTheirLength := by
  intro i s t h other
  obtain ⟨f, hf, rfl⟩ := meaning_of_exec h
  rw [length_encode]
  exact hf.pc other s

end Sys2Proof
end

section
/-! SUPPORT. The opcode bytes of a mnemonic, and the answer of an instruction whose whole next state is known. -/

namespace Sys2Proof

/-- The mnemonic of an entry of the opcode table does not depend on its operand bytes (30_encoding.md R96). -/
theorem mnemonic_formatOf (op n : Byte) (a : Addr) :
    ((formatOf op).instr? n a).map Instr.mnemonic = ((formatOf op).instr? 0 0).map Instr.mnemonic := by
  induction op using Byte.forall_of_lt with
  | h k hk => interval_cases k <;> rfl

/-- The table's entry at an instruction's opcode byte has the instruction's mnemonic. -/
theorem mnemonic_formatOf_opcode (i : Instr) : ((formatOf i.opcode).instr? 0 0).map Instr.mnemonic = some i.mnemonic := by
  rcases encodedAs i with ⟨table, -⟩ | ⟨n, table, made, -⟩ | ⟨a, table, made, -⟩
  · rw [table, Format.instr?, Option.map_some]
  · rw [← mnemonic_formatOf _ n 0, table, Format.instr?, made, Option.map_some]
  · rw [← mnemonic_formatOf _ 0 a, table, Format.instr?, made, Option.map_some]

/-- The bytes at which the opcode table has the mnemonic. -/
def opcodesOf (mn : Mnemonic) : List Byte :=
  ((List.range 256).map (BitVec.ofNat 8)).filter fun op => ((formatOf op).instr? 0 0).map Instr.mnemonic = some mn

theorem opcode_mem_opcodesOf (i : Instr) : i.opcode ∈ opcodesOf i.mnemonic :=
  List.mem_filter.mpr
    ⟨List.mem_map.mpr ⟨i.opcode.toNat, List.mem_range.mpr i.opcode.isLt, by simp⟩, by simp only [mnemonic_formatOf_opcode, decide_true]⟩

/-- Where the table's bytes for a mnemonic are all listed, so is the opcode byte of each of its instructions. -/
theorem opcode_mem {i : Instr} {mn : Mnemonic} {bytes : List Byte} (h : i.mnemonic = mn) (listed : ∀ op ∈ opcodesOf mn, op ∈ bytes) :
    i.opcode ∈ bytes :=
  listed _ (h ▸ opcode_mem_opcodesOf i)

end Sys2Proof

namespace Sys2Proof.Safety

open Sys2Proof.Machine

/-- An instruction that answers `u` itself answers it in the sense of `Answers`, if the trace of `u` is as R353 lets a claim say. -/
theorem Answers.of_exec {i : Instr} {s u : State} (run : exec i s = .next u) (free : IoFree s → u.ioTrace = s.ioTrace) : Answers i s u :=
  .of_next run rfl free fun _ => rfl

/-- The map alone decides what the environment sees of some writes. -/
theorem ioWritten_congr {s t : State} (e : t.bus = s.bus) (writes : List (Addr × Byte)) : ioWritten t writes = ioWritten s writes := by
  induction writes with
  | nil => rfl
  | cons w earlier ih => simp only [ioWritten, ih, State.kindAt_congr s t e]

end Sys2Proof.Safety
end

section
/-! PROOF. Loads and stores: the whole next state of each, and that every instruction of the family runs it on its own operand. -/

namespace Sys2Proof.Machine

open Sys2Proof.Safety

/-! The loads. -/

/-- A load changes A, N, Z, pc and what its operand's reads change, nothing else. -/
theorem loadA_frame (src : Source) (s : State) :
    loadA src s = { s with
      a := (readSource src s).1
      p := s.p.setNZ (readSource src s).1
      pc := s.pc + BitVec.ofNat 16 (sourceLength src)
      ioTrace := (readSource src s).2.ioTrace
      draws := (readSource src s).2.draws } := by
  apply State.ext <;> simp [loadA]

/-- As `loadA_frame`, for X. -/
theorem loadX_frame (src : Source) (s : State) :
    loadX src s = { s with
      x := (readSource src s).1
      p := s.p.setNZ (readSource src s).1
      pc := s.pc + BitVec.ofNat 16 (sourceLength src)
      ioTrace := (readSource src s).2.ioTrace
      draws := (readSource src s).2.draws } := by
  apply State.ext <;> simp [loadX]

/-- As `loadA_frame`, for Y. -/
theorem loadY_frame (src : Source) (s : State) :
    loadY src s = { s with
      y := (readSource src s).1
      p := s.p.setNZ (readSource src s).1
      pc := s.pc + BitVec.ofNat 16 (sourceLength src)
      ioTrace := (readSource src s).2.ioTrace
      draws := (readSource src s).2.draws } := by
  apply State.ext <;> simp [loadY]

/-- The operation of a load (40_load_store.md R120 to R122). -/
def loadOf : Mnemonic → Option (Source → State → State)
  | .lda => some loadA
  | .ldx => some loadX
  | .ldy => some loadY
  | _ => none

/-- LDA, LDX and LDY run their operation on their operand. -/
theorem exec_load {i : Instr} {load : Source → State → State} (h : loadOf i.mnemonic = some load) :
    ∃ src, sourceOf i = some src ∧ sourceLength src = i.length ∧ ∀ s, exec i s = .next (load src s) := by
  obtain ⟨f, hf, run⟩ := exec_meaning i
  cases hf with
  | lda mn op | ldx mn op | ldy mn op =>
    rw [mn] at h
    cases h
    exact ⟨_, op, sourceLength_of_sourceOf op, run⟩
  | branch cls => cases mn : i.mnemonic <;> simp [mn, accessClass, loadOf] at cls h
  | sta mn | stx mn | sty mn | cmp mn | cpx mn | cpy mn | aslMem mn | lsrMem mn | rolMem mn | rorMem mn | inc mn | dec mn | adc mn
  | sbc mn | bit mn | and mn | ora mn | eor mn => simp [mn, loadOf] at h
  | _ => simp [Instr.mnemonic, Instr.line, loadOf] at h

/-! The stores. -/

/-- A store changes pc, storage, the `io` trace and what the reads of its pointer change, nothing else. -/
theorem storeByte_frame (v : Byte) (m : MemMode) (s : State) :
    storeByte v m s = { s with
      pc := s.pc + BitVec.ofNat 16 (memLength m)
      mem := (storeByte v m s).mem
      ioTrace := ioWritten s [((effAddr m s).1, v)] ++ (effAddr m s).2.ioTrace
      draws := (effAddr m s).2.draws } := by
  apply State.ext <;> simp [storeByte, memWrite_ioTrace, ioWritten_congr (effAddr_bus m s)]

theorem storeByte_ioTrace_free (v : Byte) (m : MemMode) (s : State) (h : IoFree s) : (storeByte v m s).ioTrace = s.ioTrace := by
  rw [storeByte, advance_ioTrace, memWrite_ioTrace_free _ _ _ (h.congr (effAddr_bus m s)), effAddr_ioTrace_free m s h]

/-- Every store has a memory operand. -/
theorem exists_memOf_of_store {i : Instr} (h : accessClass i.mnemonic = .store) : ∃ m, memOf i = some m := by
  cases i with
  | staZp _ | staZpx _ | staAbs _ | staAbx _ | staAby _ | staIzx _ | staIzy _ | stxZp _ | stxZpy _ | stxAbs _ | styZp _ | styZpx _
  | styAbs _ => exact ⟨_, rfl⟩
  | _ => exact nomatch h

end Sys2Proof.Machine

namespace Sys2Proof

open Sys2Proof.Machine Sys2Proof.Safety

/-- Settles O16: each load answers its whole next state, with the trace of its operand's reads. -/
theorem loadsPutTheirOperandInTheRegister : Obligations.LoadsPutTheirOperandInTheRegister := by
  intro i s
  refine ⟨fun mn => ⟨opcode_mem mn (by decide +kernel), ?_⟩, fun mn => ⟨opcode_mem mn (by decide +kernel), ?_⟩,
    fun mn => ⟨opcode_mem mn (by decide +kernel), ?_⟩⟩
  · obtain ⟨src, op, length, run⟩ := exec_load (load := loadA) (by rw [mn, loadOf])
    exact ⟨src, op, .of_exec (by rw [run, loadA_frame, length]; rfl) (readSource_ioTrace_free src s)⟩
  · obtain ⟨src, op, length, run⟩ := exec_load (load := loadX) (by rw [mn, loadOf])
    exact ⟨src, op, .of_exec (by rw [run, loadX_frame, length]; rfl) (readSource_ioTrace_free src s)⟩
  · obtain ⟨src, op, length, run⟩ := exec_load (load := loadY) (by rw [mn, loadOf])
    exact ⟨src, op, .of_exec (by rw [run, loadY_frame, length]; rfl) (readSource_ioTrace_free src s)⟩

/-- Settles O17: the storage after is that of `storeByte`, whose every byte `peek_storeByte` gives. -/
theorem storesWriteTheRegisterAtTheEffectiveAddress : Obligations.StoresWriteTheRegisterAtTheEffectiveAddress := by
  intro i s v reg
  have store : accessClass i.mnemonic = .store := by
    rcases reg with ⟨mn, -⟩ | ⟨mn, -⟩ | ⟨mn, -⟩ <;> rw [mn, accessClass]
  obtain ⟨m, op⟩ := exists_memOf_of_store store
  have frame := storeByte_frame v m s
  rw [memLength_of_operand (operand_of_memOf op)] at frame
  have free : IoFree s → (storeByte v m s).ioTrace = s.ioTrace := storeByte_ioTrace_free v m s
  exact ⟨m, (storeByte v m s).mem, op, peek_storeByte v m s, frame ▸ .of_exec (exec_store reg op) free⟩

end Sys2Proof
end

section
/-! PROOF. Compares: the flags of a subtraction whose result is not kept, the whole next state, and that every instruction of the family
compares its own register with its own operand. -/

namespace Sys2Proof.Machine

open Sys2Proof.Safety

/-- Bit 7 of a byte as a bound on its number. -/
theorem Byte.getLsbD_seven (v : Byte) : v.getLsbD 7 = decide (128 ≤ v.toNat) :=
  (BitVec.msb_eq_getLsbD_last v).symm.trans (BitVec.msb_eq_decide v)

/-- The flags of a compare as numbers: N from the difference mod 256, V, D and I as they were (41_compare.md R140). -/
theorem Flags.compare_eq (p : Flags) (reg m : Byte) :
    p.compare reg m = { p with
      n := decide (128 ≤ (reg - m).toNat)
      z := decide (reg = m)
      c := decide (m.toNat ≤ reg.toNat) } := by
  rw [Flags.compare, Byte.getLsbD_seven]

/-- A compare changes N, Z, C, pc and what its operand's reads change, nothing else. -/
theorem compareWith_frame (reg : Byte) (src : Source) (s : State) :
    compareWith reg src s = { s with
      p := s.p.compare reg (readSource src s).1
      pc := s.pc + BitVec.ofNat 16 (sourceLength src)
      ioTrace := (readSource src s).2.ioTrace
      draws := (readSource src s).2.draws } := by
  apply State.ext <;> simp [compareWith]

/-- The register a compare subtracts from (41_compare.md R140 to R142). -/
def comparedRegister (s : State) : Mnemonic → Option Byte
  | .cmp => some s.a
  | .cpx => some s.x
  | .cpy => some s.y
  | _ => none

/-- CMP, CPX and CPY compare their register with their operand. -/
theorem exec_compare {i : Instr} {s : State} {reg : Byte} (h : comparedRegister s i.mnemonic = some reg) :
    ∃ src, sourceOf i = some src ∧ exec i s = .next (compareWith reg src s) := by
  cases i with
  | cmpImm _ | cmpZp _ | cmpZpx _ | cmpAbs _ | cmpAbx _ | cmpAby _ | cmpIzx _ | cmpIzy _
  | cpxImm _ | cpxZp _ | cpxAbs _
  | cpyImm _ | cpyZp _ | cpyAbs _ =>
    obtain rfl := Option.some.inj h
    exact ⟨_, rfl, rfl⟩
  | _ => exact nomatch h

end Sys2Proof.Machine

namespace Sys2Proof

open Sys2Proof.Machine Sys2Proof.Safety

/-- Settles O18: each compare answers its whole next state, with the trace of its operand's reads. -/
theorem comparesSetTheFlagsOfASubtraction : Obligations.ComparesSetTheFlagsOfASubtraction := by
  intro i s reg register
  have compared : comparedRegister s i.mnemonic = some reg := by
    rcases register with ⟨mn, rfl⟩ | ⟨mn, rfl⟩ | ⟨mn, rfl⟩ <;> rw [mn, comparedRegister]
  obtain ⟨src, op, run⟩ := exec_compare compared
  rw [compareWith_frame, Flags.compare_eq, sourceLength_of_sourceOf op] at run
  exact ⟨src, op, .of_exec run (readSource_ioTrace_free src s)⟩

end Sys2Proof
end

section
/-! PROOF. Branches: the target as a number, and the whole next state. -/

namespace Sys2Proof.Machine

open Sys2Proof.Safety

/-- The target is the number pc + 2 plus the signed displacement, mod 65536 (42_branch.md R150). -/
theorem branchTarget_eq_ofInt (pc0 : Addr) (d : Byte) : branchTarget pc0 d = BitVec.ofInt 16 ((pc0.toNat : Int) + 2 + d.toInt) := by
  have pc : BitVec.ofInt 16 (pc0.toNat : Int) = pc0 := by rw [BitVec.ofInt_natCast, BitVec.ofNat_toNat, BitVec.setWidth_eq]
  have displacement : BitVec.ofInt 16 d.toInt = sext16 d := by rw [← sext16_toInt, BitVec.ofInt_toInt]
  rw [BitVec.ofInt_add, BitVec.ofInt_add, pc, displacement]
  rfl

/-- A branch changes pc, nothing else, whether it is taken or not. -/
theorem branch_frame (cond : Bool) (d : Byte) (s : State) :
    branch cond d s = { s with pc := if cond then BitVec.ofInt 16 ((s.pc.toNat : Int) + 2 + d.toInt) else s.pc + 2 } := by
  rw [← branchTarget_eq_ofInt]
  cases cond with
  | true | false => rfl

/-- An instruction that branches on `cond` answers its whole next state, with the trace as it was. -/
theorem answers_of_exec_branch {i : Instr} {cond : Bool} {d : Byte} {s : State} (run : exec i s = .next (branch cond d s)) :
    Answers i s { s with pc := if cond then BitVec.ofInt 16 ((s.pc.toNat : Int) + 2 + d.toInt) else s.pc + 2 } :=
  .of_exec (branch_frame cond d s ▸ run) fun _ => rfl

end Sys2Proof.Machine

namespace Sys2Proof

open Sys2Proof.Machine Sys2Proof.Safety

/-- Settles O19: each of the eight runs by definition the one shared branch, on its own flag test. -/
theorem branchesMoveOnlyThePc : Obligations.BranchesMoveOnlyThePc := by
  intro d s go
  exact ⟨answers_of_exec_branch rfl, answers_of_exec_branch rfl, answers_of_exec_branch rfl, answers_of_exec_branch rfl,
    answers_of_exec_branch rfl, answers_of_exec_branch rfl, answers_of_exec_branch rfl, answers_of_exec_branch rfl⟩

end Sys2Proof
end

section
/-! SUPPORT. A read-modify-write: one read and one write at the same effective address (43_shift_rotate.md R170, 45_counter.md R200). -/

namespace Sys2Proof.Machine

open Sys2Proof.Safety

/-- The state after a read at the effective address of `m` and a write of `r` there. -/
def readThenWrite (m : MemMode) (r : Byte) (s : State) : State :=
  memWrite (effAddr m s).1 r (memRead (effAddr m s).1 (effAddr m s).2).2

section
variable (m : MemMode) (r : Byte) (s : State)

/-- It changes storage, the `io` trace and the draw counter, nothing else. -/
theorem readThenWrite_frame :
    readThenWrite m r s = { s with
      mem := (readThenWrite m r s).mem
      ioTrace := (readThenWrite m r s).ioTrace
      draws := (memRead (effAddr m s).1 (effAddr m s).2).2.draws } := by
  apply State.ext <;> simp [readThenWrite]

/-- What it leaves at every address. -/
theorem peek_readThenWrite (b : Addr) : (readThenWrite m r s).peek b = peekAfterWrites s [((effAddr m s).1, r)] b := by
  rw [readThenWrite, peek_memWrite, State.kindAt_congr s _ (by simp), State.peek_congr s _ (by simp)]
  rfl

/-- At an `io` location it leaves storage alone. -/
theorem readThenWrite_mem_of_io (io : s.kindAt (effAddr m s).1 = .io) : (readThenWrite m r s).mem = s.mem := by
  have kind : (memRead (effAddr m s).1 (effAddr m s).2).2.kindAt (effAddr m s).1 = .io := by
    rw [State.kindAt_congr s _ (by simp), io]
  rw [readThenWrite, memWrite]
  simp [kind]

theorem readThenWrite_ioTrace_free (h : IoFree s) : (readThenWrite m r s).ioTrace = s.ioTrace := by
  rw [readThenWrite, memWrite_ioTrace_free _ _ _ (h.congr (by simp))]
  exact readSource_ioTrace_free (.mem m) s h

end

/-- Of a read-modify-write of memory no claim may count the `io` accesses (70_reset_and_hazards.md R353). -/
theorem ioAccessesClaimed_of_readModifyWrite {i : Instr} {m : MemMode} (cls : accessClass i.mnemonic = .readModifyWrite)
    (op : memOf i = some m) : ioAccessesClaimed i = false := by
  have memory : i.mode ≠ .acc := by
    rw [show i.mode = m.mode from congrArg Operand.mode (operand_of_memOf op)]
    cases m with
    | zp _ | zpx _ | zpy _ | abs _ | abx _ | aby _ | izx _ | izy _ => exact nofun
  simp [ioAccessesClaimed, cls, memory]

/-- A read-modify-write of memory that writes `r` and the flags `p` answers its whole next state. -/
theorem answers_of_exec_readThenWrite {i : Instr} {m : MemMode} {r : Byte} {p : Flags} {s : State}
    (cls : accessClass i.mnemonic = .readModifyWrite) (op : memOf i = some m)
    (run : exec i s = .next (((readThenWrite m r s).setP p).advance (memLength m))) :
    Answers i s { s with
      p := p
      pc := s.pc + BitVec.ofNat 16 i.length
      mem := (readThenWrite m r s).mem
      draws := (memRead (effAddr m s).1 (effAddr m s).2).2.draws } := by
  rw [memLength_of_operand (operand_of_memOf op)] at run
  refine .of_next run ?_ (readThenWrite_ioTrace_free m r s) fun claimed => ?_
  · rw [readThenWrite_frame]
    rfl
  · rw [ioAccessesClaimed_of_readModifyWrite cls op] at claimed
    cases claimed

end Sys2Proof.Machine
end

section
/-! PROOF. Shifts and rotates: the four functions as numbers, the whole next state in A and in memory, and the rotates as turns of a ring of
nine bits. -/

namespace Sys2Proof.Machine

open Sys2Proof.Safety

/-! The functions as numbers. -/

/-- Seven bits moved left and a bit put in below them: the number doubled mod 256, plus the bit. -/
theorem Byte.toNat_shiftIn_low (v : Byte) (b : BitVec 1) : (v.extractLsb' 0 7 ++ b).toNat = 2 * v.toNat % 256 + b.toNat := by
  rw [BitVec.toNat_append, ← Nat.shiftLeft_add_eq_or_of_lt b.isLt, Nat.shiftLeft_eq, BitVec.extractLsb'_toNat]
  omega

/-- Seven bits moved right and a bit put in above them: the number halved, plus 128 times the bit. -/
theorem Byte.toNat_shiftIn_high (v : Byte) (b : BitVec 1) : (b ++ v.extractLsb' 1 7).toNat = 128 * b.toNat + v.toNat / 2 := by
  have := v.isLt
  rw [BitVec.toNat_append, ← Nat.shiftLeft_add_eq_or_of_lt (BitVec.isLt _), Nat.shiftLeft_eq, BitVec.extractLsb'_toNat,
    Nat.shiftRight_eq_div_pow]
  omega

theorem Byte.getLsbD_zero (v : Byte) : v.getLsbD 0 = decide (v.toNat % 2 = 1) := by
  simp [BitVec.getLsbD, Nat.testBit_zero]

/-- The function of a shift or rotate (43_shift_rotate.md R171 to R174). -/
def shiftFn : Mnemonic → Option (Byte → Bool → Byte × Bool)
  | .asl => some aslFn
  | .lsr => some lsrFn
  | .rol => some rolFn
  | .ror => some rorFn
  | _ => none

/-- Each function answers the result and the Carry that the rules give as numbers. -/
theorem shiftFn_eq {mn : Mnemonic} {f : Byte → Bool → Byte × Bool} (h : shiftFn mn = some f) (v : Byte) (c : Bool) :
    (f v c).1.toNat = shiftedValue mn v c ∧ (f v c).2 = shiftedCarry mn v := by
  cases mn with
  | asl => cases h; exact ⟨Byte.toNat_shiftIn_low v 0#1, Byte.getLsbD_seven v⟩
  | lsr => cases h; exact ⟨(Byte.toNat_shiftIn_high v 0#1).trans (Nat.zero_add _), Byte.getLsbD_zero v⟩
  | rol => cases h; exact ⟨by rw [rolFn, Byte.toNat_shiftIn_low, BitVec.toNat_ofBool]; rfl, Byte.getLsbD_seven v⟩
  | ror => cases h; exact ⟨by rw [rorFn, Byte.toNat_shiftIn_high, BitVec.toNat_ofBool]; rfl, Byte.getLsbD_zero v⟩
  | _ => exact nomatch h

/-! The instructions. -/

/-- A shift of A changes A, N, Z, C and pc, nothing else. -/
theorem shiftBy_acc_frame (f : Byte → Bool → Byte × Bool) (s : State) :
    shiftBy f .acc s = { s with
      a := (f s.a s.p.c).1
      p := s.p.shift (f s.a s.p.c).1 (f s.a s.p.c).2
      pc := s.pc + 1 } := rfl

/-- A shift of memory reads a byte, writes its result there, and sets N, Z, C and pc. -/
theorem shiftBy_mem (f : Byte → Bool → Byte × Bool) (m : MemMode) (s : State) {t : Byte × Bool}
    (h : f (memRead (effAddr m s).1 (effAddr m s).2).1 s.p.c = t) :
    shiftBy f (.mem m) s = ((readThenWrite m t.1 s).setP (s.p.shift t.1 t.2)).advance (memLength m) := by
  subst h
  rfl

/-- ASL, LSR, ROL and ROR run their function on A or on their memory operand. -/
theorem exec_shift {i : Instr} (h : i.mnemonic ∈ [Mnemonic.asl, .lsr, .rol, .ror]) :
    ∃ f, shiftFn i.mnemonic = some f ∧
      ((i.mode = .acc ∧ ∀ s, exec i s = .next (shiftBy f .acc s)) ∨
        ∃ m, memOf i = some m ∧ ∀ s, exec i s = .next (shiftBy f (.mem m) s)) := by
  cases i with
  | aslAcc | lsrAcc | rolAcc | rorAcc => exact ⟨_, rfl, .inl ⟨rfl, fun _ => rfl⟩⟩
  | aslZp _ | aslZpx _ | aslAbs _ | aslAbx _
  | lsrZp _ | lsrZpx _ | lsrAbs _ | lsrAbx _
  | rolZp _ | rolZpx _ | rolAbs _ | rolAbx _
  | rorZp _ | rorZpx _ | rorAbs _ | rorAbx _ => exact ⟨_, rfl, .inr ⟨_, rfl, fun _ => rfl⟩⟩
  | _ => simp [Instr.mnemonic, Instr.line] at h

theorem accessClass_of_shift {mn : Mnemonic} (h : mn ∈ [Mnemonic.asl, .lsr, .rol, .ror]) : accessClass mn = .readModifyWrite := by
  simp only [List.mem_cons, List.not_mem_nil, or_false] at h
  rcases h with rfl | rfl | rfl | rfl <;> rfl

/-! The rotates turn a ring of nine bits: the byte's, from bit 0 up, then the Carry. -/

/-- One ROL of a value with its Carry. -/
def rol (r : Byte × Bool) : Byte × Bool := rolFn r.1 r.2

/-- One ROR of a value with its Carry. -/
def ror (r : Byte × Bool) : Byte × Bool := rorFn r.1 r.2

/-- The ring: places 0 to 7 are the byte's bits, place 8 is the Carry. -/
def ringBit (r : Byte × Bool) (k : Fin 9) : Bool := if k = 8 then r.2 else r.1.getLsbD k

theorem eq_of_ringBit_eq {r t : Byte × Bool} (h : ∀ k, ringBit r k = ringBit t k) : r = t := by
  refine Prod.ext (BitVec.eq_of_getLsbD_eq fun k hk => ?_) (h 8)
  have below : (⟨k, by omega⟩ : Fin 9) ≠ 8 := by simp [Fin.ext_iff]; omega
  simpa [ringBit, below] using h ⟨k, by omega⟩

/-- ROL moves every bit of the ring up by one place. -/
theorem ringBit_rol (r : Byte × Bool) (k : Fin 9) : ringBit (rol r) k = ringBit r (k - 1) := by
  have bit (j : Nat) : (rol r).1.getLsbD j = if j < 1 then (BitVec.ofBool r.2).getLsbD j else (r.1.extractLsb' 0 7).getLsbD (j - 1) :=
    BitVec.getLsbD_append
  have carry : (rol r).2 = r.1.getLsbD 7 := rfl
  have below_zero : (-1 : Fin 9) = 8 := rfl
  fin_cases k <;> simp [ringBit, bit, carry, below_zero, -BitVec.getLsbD_eq_getElem]

/-- ROR moves every bit of the ring down by one place. -/
theorem ringBit_ror (r : Byte × Bool) (k : Fin 9) : ringBit (ror r) k = ringBit r (k + 1) := by
  have bit (j : Nat) : (ror r).1.getLsbD j = if j < 7 then (r.1.extractLsb' 1 7).getLsbD j else (BitVec.ofBool r.2).getLsbD (j - 7) :=
    BitVec.getLsbD_append
  have carry : (ror r).2 = r.1.getLsbD 0 := rfl
  fin_cases k <;> simp [ringBit, bit, carry, -BitVec.getLsbD_eq_getElem]

theorem ringBit_iterate_rol (n : Nat) (r : Byte × Bool) (k : Fin 9) : ringBit (rol^[n] r) k = ringBit r (k - n • 1) := by
  induction n generalizing k with
  | zero => rw [zero_nsmul, sub_zero, Function.iterate_zero_apply]
  | succ n ih => rw [Function.iterate_succ_apply', ringBit_rol, ih, succ_nsmul', sub_sub]

/-- Nine places up a ring of nine is where the bit was. -/
theorem iterate_rol_nine (r : Byte × Bool) : rol^[9] r = r :=
  eq_of_ringBit_eq fun k => by rw [ringBit_iterate_rol]; exact congrArg _ (sub_zero k)

/-- ROR undoes ROL: one place up, then one place down. -/
theorem ror_rol : Function.LeftInverse ror rol := fun r =>
  eq_of_ringBit_eq fun k => by rw [ringBit_ror, ringBit_rol, add_sub_cancel_right]

end Sys2Proof.Machine

namespace Sys2Proof

open Sys2Proof.Machine Sys2Proof.Safety

/-- Settles O20: every form runs its function on A or on its memory operand, and the function is the one the rules give as numbers. -/
theorem shiftsMoveEveryBitByOne : Obligations.ShiftsMoveEveryBitByOne := by
  intro i s family
  obtain ⟨f, hf, ⟨mode, run⟩ | ⟨m, op, run⟩⟩ := exec_shift family
  · obtain ⟨value, carry⟩ := shiftFn_eq hf s.a s.p.c
    refine .inl ⟨mode, (f s.a s.p.c).1, value, .of_exec ?_ fun _ => rfl⟩
    rw [run, shiftBy_acc_frame, carry]
    rfl
  · right
    generalize answer : f (memRead (effAddr m s).1 (effAddr m s).2).1 s.p.c = t
    obtain ⟨value, carry⟩ := shiftFn_eq hf (memRead (effAddr m s).1 (effAddr m s).2).1 s.p.c
    rw [answer] at value carry
    have answers := answers_of_exec_readThenWrite (accessClass_of_shift family) op (shiftBy_mem f m s answer ▸ run s)
    refine ⟨m, op, fun _ => ?_, fun io => ?_⟩
    · exact ⟨_, t.1, (readThenWrite m t.1 s).mem, rfl, value, peek_readThenWrite m t.1 s, carry ▸ answers⟩
    · rw [readThenWrite_mem_of_io m t.1 s io] at answers
      exact ⟨_, _, _, _, answers⟩

/-- Settles O14: a ROR undoes a ROL, so nine of them undo nine, which change nothing. -/
theorem nineRotationsRestoreValueAndCarry : Obligations.NineRotationsRestoreValueAndCarry := fun v c =>
  ⟨iterate_rol_nine (v, c), by
    have undone := ror_rol.iterate 9 (v, c)
    rwa [iterate_rol_nine] at undone⟩

end Sys2Proof
end

section
/-! SUPPORT. Two bytes pushed and pulled, S among the other operations, and the answer of an instruction of whose `io` accesses no claim may
speak. -/

namespace Sys2Proof

theorem Byte.add_one_add_one (k : Byte) : k + 1 + 1 = k + 2 := add_assoc k 1 1

theorem Byte.add_one_add_two (k : Byte) : k + 1 + 2 = k + 3 := add_assoc k 1 2

/-- Stack locations differ where S does. -/
theorem stackAddr_ne {j k : Byte} (h : j ≠ k) : stackAddr j ≠ stackAddr k := mt stackAddr_inj h

/-- Bytes that encode an instruction decode to it. -/
theorem decode_of_encode_eq {i : Instr} {bs : List Byte} (word : encode i = bs) : decode bs = .ok (i, []) := by
  rw [← word, ← List.append_nil (encode i)]
  exact decodeOfEncodeIsTheInstruction i [] i.line_wf

end Sys2Proof

namespace Sys2Proof.Safety

open Sys2Proof.Machine

/-- An instruction of whose `io` accesses no claim may speak answers `u` if it answers `u` with some trace, the old one where no address is
`io` (70_reset_and_hazards.md R353). -/
theorem Answers.of_unclaimed {i : Instr} {s u : State} {io : List IoEvent} (unclaimed : ioAccessesClaimed i = false)
    (run : exec i s = .next { u with ioTrace := io }) (free : IoFree s → io = s.ioTrace) : Answers i s u :=
  .of_next run rfl free fun claimed => by rw [unclaimed] at claimed; cases claimed

section
variable {s : State} {a b : Addr} {v : Byte} {earlier : List (Addr × Byte)}

/-- The latest write shows at its own address, in `ram`. -/
theorem peekAfterWrites_same (ram : s.kindAt a = .ram) : peekAfterWrites s ((a, v) :: earlier) a = v := if_pos ⟨rfl, ram⟩

/-- At another address the earlier writes show. -/
theorem peekAfterWrites_other (h : b ≠ a) : peekAfterWrites s ((a, v) :: earlier) b = peekAfterWrites s earlier b :=
  if_neg fun here => h here.1

/-- In `ram` the pushes of an entry leave the status byte at the lowest of three locations, the return address above it (60_exceptions.md
R306). -/
theorem peek_entryPushes {ret : Addr} {brk : Bool} (ramHi : s.kindAt (stackAddr s.sp) = .ram)
    (ramLo : s.kindAt (stackAddr (s.sp - 1)) = .ram) (ramStatus : s.kindAt (stackAddr (s.sp - 2)) = .ram) :
    peekAfterWrites s (entryPushes ret brk s) (stackAddr (s.sp - 2)) = s.p.pack brk ∧
    peekAfterWrites s (entryPushes ret brk s) (stackAddr (s.sp - 1)) = loByte ret ∧
    peekAfterWrites s (entryPushes ret brk s) (stackAddr s.sp) = hiByte ret := by
  have loNeStatus : s.sp - 1 ≠ s.sp - 2 := by bv_omega
  have hiNeStatus : s.sp ≠ s.sp - 2 := by bv_omega
  have hiNeLo : s.sp ≠ s.sp - 1 := by bv_omega
  refine ⟨peekAfterWrites_same ramStatus, ?_, ?_⟩
  · rw [entryPushes, peekAfterWrites_other (stackAddr_ne loNeStatus), peekAfterWrites_same ramLo]
  · rw [entryPushes, peekAfterWrites_other (stackAddr_ne hiNeStatus), peekAfterWrites_other (stackAddr_ne hiNeLo),
      peekAfterWrites_same ramHi]

end

/-- A location that is `ram` in some state is stored in every state with its map. -/
theorem Stored.of_ram {s t : State} {a : Addr} (ram : s.kindAt a = .ram) (e : t.bus = s.bus) : Stored t a := by
  rw [Stored, State.kindAt_congr s t e, ram, RegionKind.isStorage]

end Sys2Proof.Safety

namespace Sys2Proof.Machine

open Sys2Proof.Safety

/-- An in-page pointer read changes the `io` trace and the draw counter, nothing else. -/
theorem read16page_frame (a : Addr) (s : State) :
    (read16page a s).2 = { s with ioTrace := (read16page a s).2.ioTrace, draws := (read16page a s).2.draws } := by
  apply State.ext <;> simp

theorem read16page_ioTrace_free (a : Addr) (s : State) (h : IoFree s) : (read16page a s).2.ioTrace = s.ioTrace := by
  simp only [read16page]
  rw [memRead_ioTrace_free _ _ (h.congr (by simp)), memRead_ioTrace_free _ _ h]

/-! Pushes of an address. -/

/-- A push of an address changes S, storage and the `io` trace, nothing else. -/
theorem pushAddr_frame (t : Addr) (s : State) :
    pushAddr t s = { s with sp := s.sp - 2, mem := (pushAddr t s).mem, ioTrace := (pushAddr t s).ioTrace } := by
  apply State.ext <;> simp [sub_sub]

/-- What a push of an address leaves at every address: the low byte below the high byte (44_jump_return.md R190). -/
theorem peek_pushAddr (t : Addr) (s : State) (b : Addr) :
    (pushAddr t s).peek b = peekAfterWrites s [(stackAddr (s.sp - 1), loByte t), (stackAddr s.sp, hiByte t)] b := by
  rw [pushAddr, peek_push, peek_push, push_sp, State.kindAt_congr s _ (push_bus _ s)]
  rfl

/-! Pulls of an address. -/

/-- A pull of an address changes S, the `io` trace and the draw counter, nothing else. -/
theorem pullAddr_frame (s : State) :
    (pullAddr s).2 = { s with sp := s.sp + 2, ioTrace := (pullAddr s).2.ioTrace, draws := (pullAddr s).2.draws } := by
  apply State.ext <;> simp [add_assoc]

/-- A pull of an address from storage: the low byte from the location above S, the high byte from the next. -/
theorem pullAddr_stored {s : State} (lo : Stored s (stackAddr (s.sp + 1))) (hi : Stored s (stackAddr (s.sp + 2))) :
    pullAddr s = (mkAddr (s.peek (stackAddr (s.sp + 2))) (s.peek (stackAddr (s.sp + 1))), s.setSp (s.sp + 2)) := by
  rw [← Byte.add_one_add_one] at hi ⊢
  have second := pull_stored (s := s.setSp (s.sp + 1)) hi
  simp only [pullAddr, pull_stored lo, second]
  rfl

/-- With S two below `k`, a pull of an address from storage answers the address whose bytes lie at `k` and below it, and raises S to `k`. -/
theorem pullAddr_pushed {s : State} {k : Byte} {ret : Addr} (sp : s.sp = k - 2) (hi : Stored s (stackAddr k))
    (lo : Stored s (stackAddr (k - 1))) (high : s.peek (stackAddr k) = hiByte ret) (low : s.peek (stackAddr (k - 1)) = loByte ret) :
    pullAddr s = (ret, s.setSp k) := by
  have top : s.sp + 2 = k := by rw [sp, BitVec.sub_add_cancel]
  have next : s.sp + 1 = k - 1 := by rw [sp]; bv_omega
  rw [← top] at hi
  rw [← next] at lo
  rw [pullAddr_stored lo hi, top, next, high, low, mkAddr_hiByte_loByte]

/-- Pulling an address undoes pushing it in `ram`, wherever pc is by then. -/
theorem pullAddr_pushAddr {s : State} (t p' : Addr) (ramHi : s.kindAt (stackAddr s.sp) = .ram)
    (ramLo : s.kindAt (stackAddr (s.sp - 1)) = .ram) :
    pullAddr ((pushAddr t s).setPc p') = (t, ((pushAddr t s).setPc p').setSp s.sp) := by
  have hiNeLo : s.sp ≠ s.sp - 1 := by bv_omega
  have high : (pushAddr t s).peek (stackAddr s.sp) = hiByte t := by
    rw [peek_pushAddr, peekAfterWrites_other (stackAddr_ne hiNeLo), peekAfterWrites_same ramHi]
  have low : (pushAddr t s).peek (stackAddr (s.sp - 1)) = loByte t := by
    rw [peek_pushAddr, peekAfterWrites_same ramLo]
  have lowered : (pushAddr t s).sp = s.sp - 2 := by rw [pushAddr_frame]
  exact pullAddr_pushed lowered (.of_ram ramHi (pushAddr_bus t s)) (.of_ram ramLo (pushAddr_bus t s)) high low

/-- RTS goes to the address it pulls, plus 1 (44_jump_return.md R191). -/
theorem exec_rts_of_pullAddr {s t : State} {a : Addr} (h : pullAddr s = (a, t)) : exec .rts s = .next (t.setPc (a + 1)) :=
  calc exec .rts s = .next ((pullAddr s).2.setPc ((pullAddr s).1 + 1)) := rfl
    _ = .next (t.setPc (a + 1)) := by rw [h]

/-! The flags do not matter to a read or a pull. -/

theorem memRead_setP (a : Addr) (f : Flags) (s : State) : memRead a (s.setP f) = ((memRead a s).1, (memRead a s).2.setP f) := by
  have kind : (s.setP f).kindAt a = s.kindAt a := rfl
  unfold memRead
  rw [kind]
  cases s.kindAt a with
  | ram | rom | io | unmapped => rfl

theorem pull_setP (f : Flags) (s : State) : pull (s.setP f) = ((pull s).1, (pull s).2.setP f) := memRead_setP _ f (s.setSp (s.sp + 1))

theorem pullAddr_setP (f : Flags) (s : State) : pullAddr (s.setP f) = ((pullAddr s).1, (pullAddr s).2.setP f) := by
  simp only [pullAddr, pull_setP]

/-! Returning from an exception. -/

/-- A return from an exception pulls the flags and then pc, and changes besides them S, the `io` trace and the draw counter
(44_jump_return.md R193). -/
theorem returnFromInterrupt_frame (s : State) :
    returnFromInterrupt s = { s with
      sp := s.sp + 3
      p := Flags.unpack (pull s).1
      pc := (pullAddr (pull s).2).1
      draws := (pullAddr (pull s).2).2.draws
      ioTrace := (pullAddr (pull s).2).2.ioTrace } := by
  apply State.ext <;> simp [returnFromInterrupt, pullAddr_setP, add_assoc]

end Sys2Proof.Machine
end

section
/-! PROOF. Jumps, subroutines and the return from an exception: the whole next state of each, and that a return undoes its call or entry. -/

namespace Sys2Proof

open Sys2Proof.Machine Sys2Proof.Safety

/-- Settles O32: the vector of an indirect JMP is an in-page pointer read. -/
theorem jumpsLoadThePc : Obligations.JumpsLoadThePc := by
  intro a s
  have indirect : exec (.jmpInd a) s = .next ((read16page a s).2.setPc (read16page a s).1) := rfl
  refine ⟨decode_of_encode_eq rfl, rfl, decode_of_encode_eq rfl, rfl, rfl, ?_, fun lo hi => ?_⟩
  · rw [indirect, read16page_frame]
    rfl
  · rw [indirect, read16page_stored lo hi]
    rfl

/-- Settles O33: the storage after is that of `pushAddr`, whose every byte `peek_pushAddr` gives. -/
theorem jsrPushesItsLastByteAddress : Obligations.JsrPushesItsLastByteAddress := by
  intro a s
  refine ⟨decode_of_encode_eq rfl, rfl, (pushAddr (s.pc + 2) s).mem, peek_pushAddr (s.pc + 2) s, ?_⟩
  have run : exec (.jsrAbs a) s = .next ((pushAddr (s.pc + 2) s).setPc a) := rfl
  rw [pushAddr_frame] at run
  exact .of_unclaimed rfl run (pushAddr_ioTrace_free _ s)

/-- Settles O34: pc is what `pullAddr` answers, plus 1, and from storage `pullAddr_stored` names its bytes. -/
theorem rtsGoesToThePulledAddressPlusOne : Obligations.RtsGoesToThePulledAddressPlusOne := by
  intro s
  refine ⟨decode_of_encode_eq rfl, rfl, ?_, fun lo hi => .of_exec (exec_rts_of_pullAddr (pullAddr_stored lo hi)) fun _ => rfl⟩
  have run := exec_rts_of_pullAddr (Prod.eta (pullAddr s)).symm
  rw [pullAddr_frame] at run
  exact .of_unclaimed rfl run (pullAddr_ioTrace_free s)

/-- Settles O35: one pull for the flags and, S one higher, one of an address. -/
theorem rtiPullsFlagsThenThePc : Obligations.RtiPullsFlagsThenThePc := by
  intro s
  have run : exec .rti s = .next (returnFromInterrupt s) := rfl
  rw [returnFromInterrupt_frame] at run
  refine ⟨decode_of_encode_eq rfl, rfl, .of_unclaimed rfl run fun free => ?_, fun status lo hi => ?_⟩
  · rw [pullAddr_ioTrace_free _ (free.congr (pull_bus s)), pull_ioTrace_free s free]
  · have target := pullAddr_stored (s := s.setSp (s.sp + 1)) (by rwa [State.setSp_sp, Byte.add_one_add_one])
      (by rwa [State.setSp_sp, Byte.add_one_add_two])
    simp only [State.setSp_sp, Byte.add_one_add_one, Byte.add_one_add_two] at target
    rw [pull_stored status, target] at run
    exact .of_exec run fun _ => rfl

/-- Settles O54: the two bytes that JSR pushes are the ones RTS pulls. -/
theorem rtsUndoesJsr : Obligations.RtsUndoesJsr := by
  intro s a p' ramHi ramLo
  have back := exec_rts_of_pullAddr (pullAddr_pushAddr (s.pc + 2) p' ramHi ramLo)
  refine ⟨(pushAddr (s.pc + 2) s).setPc a, _, rfl, back, ⟨?_, pushAddr_ioTrace_free _ s⟩, fun b notHi notLo => ?_⟩
  · apply State.ext <;> simp [add_assoc]
  · exact (peek_pushAddr (s.pc + 2) s b).trans ((peekAfterWrites_other notLo).trans (peekAfterWrites_other notHi))

/-- Settles O55: the three bytes that the entry pushes are the ones RTI pulls, and unpacking the flags undoes packing them. -/
theorem rtiUndoesAnEntry : Obligations.RtiUndoesAnEntry := by
  intro s t h ret vector brk ⟨u, bytes, pushed, entered, _⟩ kept sp
  simp only [List.forall_mem_cons] at kept
  obtain ⟨⟨ramHi, storedHi, keptHi⟩, ⟨ramLo, storedLo, keptLo⟩, ⟨ramStatus, storedStatus, keptStatus⟩, -⟩ := kept
  obtain ⟨status, low, high⟩ := peek_entryPushes (ret := ret) (brk := brk) ramHi ramLo ramStatus
  have mem : t.mem = u.mem := by rw [entered]
  rw [State.peek_congr u t mem, bytes] at keptHi keptLo keptStatus
  have lowered : h.sp = s.sp - 3 := sp.trans ((congrArg State.sp entered).trans (congrArg State.sp pushed))
  have first : h.sp + 1 = s.sp - 2 := by rw [lowered]; bv_omega
  have raised : h.sp + 3 = s.sp := by rw [lowered, BitVec.sub_add_cancel]
  have flags : pull h = (s.p.pack brk, h.setSp (s.sp - 2)) := by
    rw [pull_stored (first ▸ storedStatus), first, keptStatus, status]
  have target : pullAddr (h.setSp (s.sp - 2)) = (ret, (h.setSp (s.sp - 2)).setSp s.sp) :=
    pullAddr_pushed rfl storedHi storedLo (keptHi.trans high) (keptLo.trans low)
  have run : exec .rti h = .next (returnFromInterrupt h) := rfl
  rw [returnFromInterrupt_frame, flags, target, Flags.unpack_pack, raised] at run
  exact .of_exec run fun _ => rfl

end Sys2Proof
end

section
/-! PROOF. Counters: a byte of memory or a register stepped by one, always in binary, and the whole next state. -/

namespace Sys2Proof.Machine

open Sys2Proof.Safety

/-! In memory. -/

/-- The function of INC and DEC (45_counter.md R200, R201). -/
def counterFn : Mnemonic → Option (Byte → Byte)
  | .inc => some fun v => v + 1
  | .dec => some fun v => v - 1
  | _ => none

/-- INC and DEC run their function on their memory operand. -/
theorem exec_counter {i : Instr} {f : Byte → Byte} (h : counterFn i.mnemonic = some f) :
    ∃ m, memOf i = some m ∧ ∀ s, exec i s = .next (modifyMem f m s) := by
  cases i with
  | incZp _ | incZpx _ | incAbs _ | incAbx _
  | decZp _ | decZpx _ | decAbs _ | decAbx _ =>
    cases h
    exact ⟨_, rfl, fun _ => rfl⟩
  | _ => exact nomatch h

theorem accessClass_of_counter {mn : Mnemonic} {f : Byte → Byte} (h : counterFn mn = some f) : accessClass mn = .readModifyWrite := by
  cases mn with
  | inc | dec => rfl
  | _ => exact nomatch h

/-- One more, as a number mod 256. -/
theorem Byte.toNat_add_one (v : Byte) : ((v + 1).toNat : Int) = ((v.toNat : Int) + 1) % 256 := by
  rw [BitVec.toNat_add]
  rfl

/-- One less, as a number mod 256: $00 gives $FF. -/
theorem Byte.toNat_sub_one (v : Byte) : ((v - 1).toNat : Int) = ((v.toNat : Int) + -1) % 256 := by
  have one : (1 : Byte).toNat = 1 := rfl
  rw [BitVec.toNat_sub, one]
  omega

/-- A memory counter reads a byte, writes its result there, and sets N, Z and pc. -/
theorem modifyMem_eq (f : Byte → Byte) (m : MemMode) (s : State) {r : Byte} (h : f (memRead (effAddr m s).1 (effAddr m s).2).1 = r) :
    modifyMem f m s = ((readThenWrite m r s).setP (s.p.setNZ r)).advance (memLength m) := by
  subst h
  rfl

/-! In a register. -/

/-- A byte put in X with its N and Z by an instruction of one byte: all else stays. -/
theorem setX_setNZ_frame (v : Byte) (s : State) :
    ((s.setX v).setP (s.p.setNZ v)).advance 1 = { s with
      x := v
      p := { s.p with n := v.getLsbD 7, z := decide (v = 0) }
      pc := s.pc + 1 } := rfl

/-- As `setX_setNZ_frame`, for Y. -/
theorem setY_setNZ_frame (v : Byte) (s : State) :
    ((s.setY v).setP (s.p.setNZ v)).advance 1 = { s with
      y := v
      p := { s.p with n := v.getLsbD 7, z := decide (v = 0) }
      pc := s.pc + 1 } := rfl

end Sys2Proof.Machine

namespace Sys2Proof

open Sys2Proof.Machine Sys2Proof.Safety

/-- Settles O21: both are one read and one write at the effective address; on an `io` location the write leaves storage alone. -/
theorem memoryCountersStepByOne : Obligations.MemoryCountersStepByOne := by
  intro i s k family
  obtain ⟨f, counter, stepped⟩ : ∃ f, counterFn i.mnemonic = some f ∧ ∀ v, ((f v).toNat : Int) = ((v.toNat : Int) + k) % 256 := by
    rcases family with ⟨mn, rfl⟩ | ⟨mn, rfl⟩
    · exact ⟨_, congrArg counterFn mn, Byte.toNat_add_one⟩
    · exact ⟨_, congrArg counterFn mn, Byte.toNat_sub_one⟩
  obtain ⟨m, op, run⟩ := exec_counter counter
  have value := stepped (memRead (effAddr m s).1 (effAddr m s).2).1
  generalize answer : f (memRead (effAddr m s).1 (effAddr m s).2).1 = r at value
  have answers := answers_of_exec_readThenWrite (accessClass_of_counter counter) op (modifyMem_eq f m s answer ▸ run s)
  refine ⟨m, op, fun _ => ?_, fun io => ?_⟩
  · exact ⟨r, (readThenWrite m r s).mem, value, peek_readThenWrite m r s, answers⟩
  · rw [readThenWrite_mem_of_io m r s io] at answers
    exact ⟨_, _, _, answers⟩

/-- Settles O22: each runs by definition the one shared change of its register, with the register's old value plus or minus 1. -/
theorem registerCountersStepByOne : Obligations.RegisterCountersStepByOne := fun s =>
  ⟨⟨decode_of_encode_eq rfl, congrArg Host.Outcome.next (setX_setNZ_frame (s.x + 1) s)⟩,
    ⟨decode_of_encode_eq rfl, congrArg Host.Outcome.next (setX_setNZ_frame (s.x - 1) s)⟩,
    ⟨decode_of_encode_eq rfl, congrArg Host.Outcome.next (setY_setNZ_frame (s.y + 1) s)⟩,
    ⟨decode_of_encode_eq rfl, congrArg Host.Outcome.next (setY_setNZ_frame (s.y - 1) s)⟩,
    rfl⟩

end Sys2Proof
end

section
/-! PROOF. Addition and subtraction as numbers: binary, where SBC adds the complement, and decimal, where `BcdValid` fixes A and C. -/

namespace Sys2Proof.Machine

/-! Binary. -/

/-- A byte as a signed number: 256 less from $80 on. -/
theorem Byte.toInt_cases (v : Byte) : (v.toNat < 128 ∧ v.toInt = v.toNat) ∨ (128 ≤ v.toNat ∧ v.toInt = v.toNat - 256) := by
  rw [BitVec.toInt_eq_toNat_cond]
  split <;> omega

/-- The 9-bit sum of ADC is the number: two bytes and a Carry never reach 512 (46_arith_logic.md R221). -/
theorem zext9_add_toNat (acc m : Byte) (c : Bool) : (zext9 acc + zext9 m + carry9 c).toNat = acc.toNat + m.toNat + c.toNat := by
  have := c.toNat_le
  simp only [zext9, carry9, BitVec.toNat_add, BitVec.toNat_setWidth, BitVec.toNat_ofBool]
  omega

/-- Binary ADC as numbers: the sum mod 256, its unsigned carry, and whether the signed sum leaves -128..+127 (46_arith_logic.md R221). -/
theorem binaryAdc_eq (acc m : Byte) (c : Bool) :
    (binaryAdc acc m c).r.toNat = (acc.toNat + m.toNat + c.toNat) % 256 ∧
    (binaryAdc acc m c).c = decide (255 < acc.toNat + m.toNat + c.toNat) ∧
    (binaryAdc acc m c).v = decide (acc.toInt + m.toInt + c.toNat < -128 ∨ 127 < acc.toInt + m.toInt + c.toNat) := by
  have sum := zext9_add_toNat acc m c
  have result : (binaryAdc acc m c).r.toNat = (acc.toNat + m.toNat + c.toNat) % 256 := by
    rw [← sum]
    exact BitVec.extractLsb'_toNat ..
  refine ⟨result, ?_, ?_⟩
  · calc (binaryAdc acc m c).c
      _ = decide (256 ≤ (zext9 acc + zext9 m + carry9 c).toNat) :=
        (BitVec.msb_eq_getLsbD_last _).symm.trans (BitVec.msb_eq_decide _)
      _ = decide (255 < acc.toNat + m.toNat + c.toNat) := by rw [sum]; rfl
  · have overflow : (binaryAdc acc m c).v =
      (acc.getLsbD 7 == m.getLsbD 7 && (binaryAdc acc m c).r.getLsbD 7 != acc.getLsbD 7) := rfl
    have := c.toNat_le
    have signed := Byte.toInt_cases acc
    have signed' := Byte.toInt_cases m
    rw [overflow, Bool.eq_iff_iff]
    simp only [Byte.getLsbD_seven, result, Bool.and_eq_true, beq_iff_eq, bne_iff_ne, ne_eq, decide_eq_decide, decide_eq_true_eq]
    omega

/-- Binary SBC is binary ADC of the complement (46_arith_logic.md R222). -/
theorem binarySbc_eq_binaryAdc (acc m : Byte) (c : Bool) : binarySbc acc m c = binaryAdc acc (~~~m) c := by
  have complement : m ^^^ 0xFF#8 = ~~~m := BitVec.xor_allOnes
  have signs : (acc.getLsbD 7 != m.getLsbD 7) = (acc.getLsbD 7 == (~~~m).getLsbD 7) := by
    rw [BitVec.getLsbD_not]
    cases acc.getLsbD 7 <;> cases m.getLsbD 7 <;> rfl
  rw [binarySbc, complement, signs]
  rfl

/-- Binary SBC as numbers (46_arith_logic.md R222). -/
theorem binarySbc_eq (acc m : Byte) (c : Bool) :
    ((binarySbc acc m c).r.toNat : Int) = ((acc.toNat : Int) - m.toNat - (1 - c.toNat)) % 256 ∧
    (binarySbc acc m c).c = decide (0 ≤ (acc.toNat : Int) - m.toNat - (1 - c.toNat)) ∧
    (binarySbc acc m c).v = decide (acc.toInt - m.toInt - (1 - c.toNat) < -128 ∨ 127 < acc.toInt - m.toInt - (1 - c.toNat)) := by
  obtain ⟨result, carry, overflow⟩ := binaryAdc_eq acc (~~~m) c
  have unsigned : ((~~~m).toNat : Int) = 255 - m.toNat := by
    rw [BitVec.toNat_not]
    omega
  have signed : (~~~m).toInt = -1 - m.toInt := by
    have := Byte.toInt_cases m
    have := Byte.toInt_cases (~~~m)
    omega
  rw [binarySbc_eq_binaryAdc, carry, overflow, signed]
  refine ⟨by omega, decide_eq_decide.mpr ?_, decide_eq_decide.mpr ?_⟩ <;> omega

/-! Decimal. -/

/-- `bcd_adc` has the property `BcdValid`, whatever it answers elsewhere (46_arith_logic.md R220). -/
theorem bcdAdc_bcdValid : BcdValidAdc bcdAdc := fun acc m c digits digits' => by
  simp [bcdAdc, digits, digits']

/-- `bcd_sbc` has the property `BcdValid`, whatever it answers elsewhere (46_arith_logic.md R220). -/
theorem bcdSbc_bcdValid : BcdValidSbc bcdSbc := fun acc m c digits digits' => by
  simp [bcdSbc, digits, digits']

/-- Packed BCD: two digits. -/
theorem isBcd_iff (b : Byte) : isBcd b = true ↔ b.toNat / 16 ≤ 9 ∧ b.toNat % 16 ≤ 9 := by
  simp [isBcd]

/-! The reference functions, digit by digit: of a digit sum or difference `x` the digit `x % 10` stays, and `x / 10` is carried or borrowed. -/

/-- The low digit of a sum with its carry: 6 more where the sum passes 9. -/
theorem lowDigit_add {x : Nat} (h : x ≤ 19) : (if 10 ≤ x then (x + 6) % 16 + 16 else x) = 16 * (x / 10) + x % 10 := by
  split <;> omega

/-- The high digit of a sum with its carry, over a low digit: 6 more where the sum passes 9. -/
theorem highDigit_add {x l : Nat} (h : x ≤ 19) (hl : l < 10) :
    (if 160 ≤ 16 * x + l then 16 * x + l + 96 else 16 * x + l) = 256 * (x / 10) + 16 * (x % 10) + l := by
  split <;> omega

/-- The low digit of a difference with its borrow: 6 less where the difference is negative. -/
theorem lowDigit_sub {x : Int} (h : -10 ≤ x ∧ x ≤ 9) : (if x < 0 then (x - 6) % 16 - 16 else x) = 16 * (x / 10) + x % 10 := by
  split <;> omega

/-- The high digit of a difference with its borrow, over a low digit: 6 less where the difference is negative. -/
theorem highDigit_sub {x l : Int} (h : -10 ≤ x ∧ x ≤ 9) (hl : 0 ≤ l ∧ l < 10) :
    (if 16 * x + l < 0 then 16 * x + l - 96 else 16 * x + l) = 256 * (x / 10) + 16 * (x % 10) + l := by
  split <;> omega

/-- Two digits below any hundreds, as a byte and as a decimal number. -/
theorem ofNat_digits (h : Nat) {u l : Nat} (hu : u < 10) (hl : l < 10) :
    BitVec.ofNat 8 (256 * h + 16 * u + l) = bcdByte ((100 * h + 10 * u + l) % 100) := by
  have value : (100 * h + 10 * u + l) % 100 = 10 * u + l := by omega
  apply BitVec.eq_of_toNat_eq
  rw [value]
  simp only [bcdByte, BitVec.toNat_ofNat]
  omega

/-- Two digits stay below the hundreds, as a byte and as a decimal number. -/
theorem hundreds_iff (h : Nat) {u l : Nat} (hu : u < 10) (hl : l < 10) : 256 ≤ 256 * h + 16 * u + l ↔ 100 ≤ 100 * h + 10 * u + l := by
  cases h with
  | zero | succ h => omega

/-- As `ofNat_digits`, with the hundreds borrowed. -/
theorem ofInt_digits (h : Int) {u l : Int} (hu : 0 ≤ u ∧ u < 10) (hl : 0 ≤ l ∧ l < 10) :
    BitVec.ofInt 8 (256 * h + 16 * u + l) = bcdByte ((100 * h + 10 * u + l) % 100).toNat := by
  have value : ((100 * h + 10 * u + l) % 100).toNat = (10 * u + l).toNat := by omega
  apply BitVec.eq_of_toNat_eq
  rw [value]
  simp only [bcdByte, BitVec.toNat_ofNat, BitVec.toNat_ofInt]
  omega

/-- The reference ADC has the property `BcdValid`: it carries the tens of each digit sum (46_arith_logic.md R220). -/
theorem nmosAdc_bcdValid : BcdValidAdc nmosAdc := by
  intro acc m c digits digits'
  rw [isBcd_iff] at digits digits'
  have := c.toNat_le
  obtain ⟨x, low⟩ : ∃ x, x = acc.toNat % 16 + m.toNat % 16 + c.toNat := ⟨_, rfl⟩
  obtain ⟨y, high⟩ : ∃ y, y = acc.toNat / 16 + m.toNat / 16 + x / 10 := ⟨_, rfl⟩
  have x_le : x ≤ 19 := by omega
  have y_le : y ≤ 19 := by omega
  have digit : x % 10 < 10 := by omega
  have digit' : y % 10 < 10 := by omega
  have sum : bcdSum acc m c = 100 * (y / 10) + 10 * (y % 10) + x % 10 := by
    simp only [bcdSum, bcdVal]
    omega
  have packed : acc.toNat / 16 * 16 + m.toNat / 16 * 16 + (16 * (x / 10) + x % 10) = 16 * y + x % 10 := by omega
  rw [sum, ← ofNat_digits _ digit' digit]
  simp only [nmosAdc, ← low, lowDigit_add x_le, packed, highDigit_add y_le digit, hundreds_iff _ digit' digit, and_self]

/-- The reference SBC has the property `BcdValid`: it borrows the tens of each digit difference, and there is no borrow in binary exactly
where there is none in decimal (46_arith_logic.md R220). -/
theorem nmosSbc_bcdValid : BcdValidSbc nmosSbc := by
  intro acc m c digits digits'
  rw [isBcd_iff] at digits digits'
  have := c.toNat_le
  constructor
  · obtain ⟨x, low⟩ : ∃ x : Int, x = (acc.toNat % 16 : Nat) - (m.toNat % 16 : Nat) + c.toNat - 1 := ⟨_, rfl⟩
    obtain ⟨y, high⟩ : ∃ y : Int, y = (acc.toNat / 16 : Nat) - (m.toNat / 16 : Nat) + x / 10 := ⟨_, rfl⟩
    have x_range : -10 ≤ x ∧ x ≤ 9 := by omega
    have y_range : -10 ≤ y ∧ y ≤ 9 := by omega
    have digit : 0 ≤ x % 10 ∧ x % 10 < 10 := by omega
    have digit' : 0 ≤ y % 10 ∧ y % 10 < 10 := by omega
    have difference : bcdDiff acc m c = 100 * (y / 10) + 10 * (y % 10) + x % 10 := by
      simp only [bcdDiff, bcdVal]
      omega
    have packed : ((acc.toNat / 16 * 16 : Nat) : Int) - (m.toNat / 16 * 16 : Nat) + (16 * (x / 10) + x % 10) = 16 * y + x % 10 := by omega
    rw [difference, ← ofInt_digits _ digit' digit]
    simp only [nmosSbc, ← low, lowDigit_sub x_range, packed, highDigit_sub y_range digit]
  · have carry : (nmosSbc acc m c).c = (binarySbc acc m c).c := rfl
    obtain ⟨-, borrow, -⟩ := binarySbc_eq acc m c
    rw [carry, borrow, decide_eq_decide]
    simp only [bcdDiff, bcdVal]
    omega

end Sys2Proof.Machine

namespace Sys2Proof

open Sys2Proof.Machine

/-- Settles O13: each digit of the reference functions is corrected exactly where it leaves 0..9. -/
theorem referenceInstanceIsBcdValid : Obligations.ReferenceInstanceIsBcdValid :=
  ⟨nmosAdc_bcdValid, nmosSbc_bcdValid⟩

end Sys2Proof
end

section
/-! PROOF. Arithmetic and logic: the whole next state of ADC, SBC, AND, ORA and EOR, which put a function of A and the operand in A, and of BIT,
which puts nothing there. -/

namespace Sys2Proof.Machine

open Sys2Proof.Safety

/-- The bitwise function of AND, ORA and EOR (46_arith_logic.md R224 to R226). -/
def logicFn : Mnemonic → Option (Byte → Byte → Byte)
  | .and => some fun u v => u &&& v
  | .ora => some fun u v => u ||| v
  | .eor => some fun u v => u ^^^ v
  | _ => none

/-- What an instruction that works on A makes of A, its operand and the flags: the new A and the new flags (46_arith_logic.md R221, R222,
R224 to R226). -/
def accumulatorFn : Mnemonic → Option (Byte → Byte → Flags → Byte × Flags)
  | .adc => some fun acc m p => ((adcResult acc m p).r, p.arith (adcResult acc m p))
  | .sbc => some fun acc m p => ((sbcResult acc m p).r, p.arith (sbcResult acc m p))
  | mn => (logicFn mn).map fun f acc m p => (f acc m, p.setNZ (f acc m))

/-- AND, ORA and EOR are the mnemonics with a bitwise function, and work on A by it. -/
theorem exists_logicFn {mn : Mnemonic} (h : mn ∈ [Mnemonic.and, .ora, .eor]) :
    ∃ f, logicFn mn = some f ∧ accumulatorFn mn = some fun acc m p => (f acc m, p.setNZ (f acc m)) := by
  cases mn with
  | and | ora | eor => exact ⟨_, rfl, rfl⟩
  | _ => simp at h

/-- ADC, SBC, AND, ORA and EOR run their function on A, their operand and the flags. -/
theorem exec_accumulator {i : Instr} {f : Byte → Byte → Flags → Byte × Flags} (h : accumulatorFn i.mnemonic = some f) :
    ∃ src, sourceOf i = some src ∧ ∀ s, exec i s = .next
      ((((readSource src s).2.setA (f s.a (readSource src s).1 s.p).1).setP (f s.a (readSource src s).1 s.p).2).advance
        (sourceLength src)) := by
  cases i with
  | adcImm _ | adcZp _ | adcZpx _ | adcAbs _ | adcAbx _ | adcAby _ | adcIzx _ | adcIzy _
  | sbcImm _ | sbcZp _ | sbcZpx _ | sbcAbs _ | sbcAbx _ | sbcAby _ | sbcIzx _ | sbcIzy _
  | andImm _ | andZp _ | andZpx _ | andAbs _ | andAbx _ | andAby _ | andIzx _ | andIzy _
  | oraImm _ | oraZp _ | oraZpx _ | oraAbs _ | oraAbx _ | oraAby _ | oraIzx _ | oraIzy _
  | eorImm _ | eorZp _ | eorZpx _ | eorAbs _ | eorAbx _ | eorAby _ | eorIzx _ | eorIzy _ =>
    cases h
    exact ⟨_, rfl, fun _ => rfl⟩
  | _ => exact nomatch h

/-- A byte put in A and flags set after an operand's reads: pc moves on, and all else is as those reads left it. -/
theorem readSource_setA_setP_frame (src : Source) (v : Byte) (q : Flags) (s : State) :
    (((readSource src s).2.setA v).setP q).advance (sourceLength src) = { s with
      a := v
      p := q
      pc := s.pc + BitVec.ofNat 16 (sourceLength src)
      ioTrace := (readSource src s).2.ioTrace
      draws := (readSource src s).2.draws } := by
  apply State.ext <;> simp

/-- The whole next state of an instruction that works on A. -/
theorem answers_accumulator {i : Instr} {f : Byte → Byte → Flags → Byte × Flags} (h : accumulatorFn i.mnemonic = some f) (s : State) :
    ∃ src, sourceOf i = some src ∧ Answers i s { s with
      a := (f s.a (readSource src s).1 s.p).1
      p := (f s.a (readSource src s).1 s.p).2
      pc := s.pc + BitVec.ofNat 16 i.length
      ioTrace := (readSource src s).2.ioTrace
      draws := (readSource src s).2.draws } := by
  obtain ⟨src, op, run⟩ := exec_accumulator h
  have frame := run s
  rw [readSource_setA_setP_frame, sourceLength_of_sourceOf op] at frame
  exact ⟨src, op, .of_exec frame (readSource_ioTrace_free src s)⟩

/-- BIT changes N, V, Z, pc and what its operand's reads change, nothing else. -/
theorem testBits_frame (m : MemMode) (s : State) :
    testBits m s = { s with
      p := s.p.bitTest s.a (readSource (.mem m) s).1
      pc := s.pc + BitVec.ofNat 16 (memLength m)
      ioTrace := (readSource (.mem m) s).2.ioTrace
      draws := (readSource (.mem m) s).2.draws } := by
  apply State.ext <;> simp [testBits]

/-- BIT tests its memory operand. -/
theorem exec_bit {i : Instr} (h : i.mnemonic = .bit) : ∃ m, memOf i = some m ∧ ∀ s, exec i s = .next (testBits m s) := by
  cases i with
  | bitZp _ | bitAbs _ => exact ⟨_, rfl, fun _ => rfl⟩
  | _ => exact nomatch h

end Sys2Proof.Machine

namespace Sys2Proof

open Sys2Proof.Machine Sys2Proof.Safety

/-- Settles O23: `adcResult` is the binary sum of `binaryAdc_eq` or `bcd_adc`, as D says. -/
theorem adcAddsOperandAndCarry : Obligations.AdcAddsOperandAndCarry := by
  intro i s mn
  obtain ⟨src, op, answers⟩ := answers_accumulator (congrArg accumulatorFn mn) s
  refine ⟨src, adcResult s.a (readSource src s).1 s.p, op, fun binary => ?_, fun decimal => ?_, answers⟩
  · obtain ⟨result, carry, overflow⟩ := binaryAdc_eq s.a (readSource src s).1 s.p.c
    rw [adcResult, binary]
    exact ⟨result, carry, overflow, rfl, rfl⟩
  · rw [adcResult, decimal]
    exact ⟨rfl, bcdAdc_bcdValid s.a (readSource src s).1 s.p.c⟩

/-- Settles O24: as O23, with `binarySbc_eq` and `bcd_sbc`. -/
theorem sbcSubtractsOperandAndBorrow : Obligations.SbcSubtractsOperandAndBorrow := by
  intro i s mn
  obtain ⟨src, op, answers⟩ := answers_accumulator (congrArg accumulatorFn mn) s
  refine ⟨src, sbcResult s.a (readSource src s).1 s.p, op, fun binary => ?_, fun decimal => ?_, answers⟩
  · obtain ⟨result, borrow, overflow⟩ := binarySbc_eq s.a (readSource src s).1 s.p.c
    rw [sbcResult, binary]
    exact ⟨result, borrow, overflow, rfl, rfl⟩
  · rw [sbcResult, decimal]
    exact ⟨rfl, bcdSbc_bcdValid s.a (readSource src s).1 s.p.c⟩

/-- Settles O25: both forms answer the whole next state of the one shared test. -/
theorem bitTestsMemoryAgainstA : Obligations.BitTestsMemoryAgainstA := by
  intro i s mn
  obtain ⟨m, op, run⟩ := exec_bit mn
  have frame := run s
  rw [testBits_frame, memLength_of_operand (operand_of_memOf op)] at frame
  exact ⟨opcode_mem mn (by decide +kernel), m, op, .of_exec frame (readSource_ioTrace_free (.mem m) s)⟩

/-- Settles O26: each runs its bitwise function, whose bits the library gives. -/
theorem logicActsOnEachBitOfA : Obligations.LogicActsOnEachBitOfA := by
  intro i s family
  obtain ⟨f, bitwise, row⟩ := exists_logicFn family
  obtain ⟨src, op, answers⟩ := answers_accumulator row s
  refine ⟨src, f s.a (readSource src s).1, op, fun mn => ?_, fun mn => ?_, fun mn => ?_, answers⟩
  · obtain rfl := Option.some.inj ((congrArg logicFn mn).symm.trans bitwise)
    exact fun _ => BitVec.getLsbD_and
  · obtain rfl := Option.some.inj ((congrArg logicFn mn).symm.trans bitwise)
    exact fun _ => BitVec.getLsbD_or
  · obtain rfl := Option.some.inj ((congrArg logicFn mn).symm.trans bitwise)
    exact fun _ => BitVec.getLsbD_xor

end Sys2Proof
end

section
/-! PROOF. Register transfers: a byte put in a register with its N and Z, and TXS, which writes S and no flag. -/

namespace Sys2Proof.Machine

/-- As `setX_setNZ_frame`, for A. -/
theorem setA_setNZ_frame (v : Byte) (s : State) :
    ((s.setA v).setP (s.p.setNZ v)).advance 1 = { s with
      a := v
      p := { s.p with n := v.getLsbD 7, z := decide (v = 0) }
      pc := s.pc + 1 } := rfl

/-- A byte put in S by an instruction of one byte: the flags stay, as all else does (47_transfer.md R255). -/
theorem setSp_frame (v : Byte) (s : State) : (s.setSp v).advance 1 = { s with sp := v, pc := s.pc + 1 } := rfl

end Sys2Proof.Machine

namespace Sys2Proof

open Sys2Proof.Machine

/-- Settles O27: each runs by definition the one shared change of its target register, with the byte of its source register; only that of
S sets no flag. -/
theorem transfersCopyOneRegister : Obligations.TransfersCopyOneRegister := by
  intro s
  refine ⟨⟨decode_of_encode_eq rfl, ?tax⟩, ⟨decode_of_encode_eq rfl, ?txa⟩, ⟨decode_of_encode_eq rfl, ?tay⟩,
    ⟨decode_of_encode_eq rfl, ?tya⟩, ⟨decode_of_encode_eq rfl, ?tsx⟩, ⟨decode_of_encode_eq rfl, ?txs⟩, rfl⟩
  case tax => exact congrArg Host.Outcome.next (setX_setNZ_frame s.a s)
  case txa => exact congrArg Host.Outcome.next (setA_setNZ_frame s.x s)
  case tay => exact congrArg Host.Outcome.next (setY_setNZ_frame s.a s)
  case tya => exact congrArg Host.Outcome.next (setA_setNZ_frame s.y s)
  case tsx => exact congrArg Host.Outcome.next (setX_setNZ_frame s.sp s)
  case txs => exact congrArg Host.Outcome.next (setSp_frame s.x s)

end Sys2Proof
end

section
/-! PROOF. The instructions that write one flag, push or pull one byte or do nothing, and that every instruction completes. -/

namespace Sys2Proof.Machine

open Sys2Proof.Safety

/-! One flag or none. -/

/-- The flags changed by an instruction of one byte: all else stays. -/
theorem setP_advance_frame (q : Flags) (s : State) : (s.setP q).advance 1 = { s with p := q, pc := s.pc + 1 } := rfl

/-- I written, and the I before kept for the next boundary (60_exceptions.md R304). -/
theorem writeI_frame (b : Bool) (s : State) :
    writeI b s = { s with p := { s.p with i := b }, pc := s.pc + 1, iBefore := some s.p.i } := rfl

/-! One byte pushed or pulled. -/

/-- An instruction of one byte that pushes `v` answers the whole next state, with the storage the push leaves. -/
theorem answers_of_exec_push {i : Instr} {v : Byte} {s : State} (unclaimed : ioAccessesClaimed i = false)
    (run : exec i s = .next ((push v s).advance 1)) :
    Answers i s { s with sp := s.sp - 1, pc := s.pc + 1, mem := (push v s).mem } := by
  rw [push_frame] at run
  exact .of_unclaimed unclaimed run fun free => by rw [← push_ioTrace, push_ioTrace_free v s free]

/-- A read changes the `io` trace and the draw counter, nothing else. -/
theorem memRead_frame (a : Addr) (s : State) :
    (memRead a s).2 = { s with ioTrace := (memRead a s).2.ioTrace, draws := (memRead a s).2.draws } := by
  apply State.ext <;> simp

/-- PLA puts the byte it pulls in A, with its N and Z (49_stack_misc.md R281). -/
theorem exec_pla_of_pull {s t : State} {v : Byte} (h : pull s = (v, t)) :
    exec .pla s = .next (((t.setA v).setP (s.p.setNZ v)).advance 1) :=
  calc exec .pla s = .next ((((pull s).2.setA (pull s).1).setP (s.p.setNZ (pull s).1)).advance 1) := rfl
    _ = .next (((t.setA v).setP (s.p.setNZ v)).advance 1) := by rw [h]

/-- PLP puts the byte it pulls in the flags, and keeps the I before (49_stack_misc.md R283, 60_exceptions.md R304). -/
theorem exec_plp_of_pull {s t : State} {v : Byte} (h : pull s = (v, t)) :
    exec .plp s = .next (((t.setP (Flags.unpack v)).setIBefore (some s.p.i)).advance 1) :=
  calc exec .plp s = .next ((((pull s).2.setP (Flags.unpack (pull s).1)).setIBefore (some s.p.i)).advance 1) := rfl
    _ = .next (((t.setP (Flags.unpack v)).setIBefore (some s.p.i)).advance 1) := by rw [h]

/-- Pulling a byte answers the one pushed in `ram`, and raises S to where it was, whatever has changed besides S, storage and the map. -/
theorem pull_pushed {s t : State} {v : Byte} (ram : s.kindAt (stackAddr s.sp) = .ram) (sp : t.sp = (push v s).sp)
    (mem : t.mem = (push v s).mem) (bus : t.bus = (push v s).bus) : pull t = (v, t.setSp s.sp) := by
  have raised : t.sp + 1 = s.sp := by rw [sp, push_sp, BitVec.sub_add_cancel]
  have here : t.peek (stackAddr s.sp) = v := by rw [State.peek_congr _ t mem, peek_push, if_pos ⟨rfl, ram⟩]
  rw [pull_stored (raised ▸ .of_ram ram (bus.trans (push_bus v s))), raised, here]

end Sys2Proof.Machine

namespace Sys2Proof

open Sys2Proof.Machine Sys2Proof.Safety

/-- Settles O15: every instruction has a meaning, and a meaning is a total state change. -/
theorem everyInstructionCompletes : Obligations.EveryInstructionCompletes := by
  intro i s
  obtain ⟨f, -, run⟩ := exec_meaning i
  exact ⟨f s, run s⟩

/-- Settles O28: each runs by definition the one shared change of the flags, with its one flag written; NOP changes none. -/
theorem flagInstructionsWriteOneFlag : Obligations.FlagInstructionsWriteOneFlag := by
  intro s
  refine ⟨⟨decode_of_encode_eq rfl, ?clc⟩, ⟨decode_of_encode_eq rfl, ?sec⟩, ⟨decode_of_encode_eq rfl, ?cld⟩,
    ⟨decode_of_encode_eq rfl, ?sed⟩, ⟨decode_of_encode_eq rfl, ?clv⟩, ⟨decode_of_encode_eq rfl, ?nop⟩, rfl⟩
  case clc => exact congrArg Host.Outcome.next (setP_advance_frame { s.p with c := false } s)
  case sec => exact congrArg Host.Outcome.next (setP_advance_frame { s.p with c := true } s)
  case cld => exact congrArg Host.Outcome.next (setP_advance_frame { s.p with d := false } s)
  case sed => exact congrArg Host.Outcome.next (setP_advance_frame { s.p with d := true } s)
  case clv => exact congrArg Host.Outcome.next (setP_advance_frame { s.p with v := false } s)
  case nop => exact congrArg Host.Outcome.next (setP_advance_frame s.p s)

/-- Settles O29: both run the one shared write of I. -/
theorem interruptMaskInstructionsWriteI : Obligations.InterruptMaskInstructionsWriteI := fun s =>
  ⟨congrArg Host.Outcome.next (writeI_frame false s), congrArg Host.Outcome.next (writeI_frame true s)⟩

/-- Settles O30: the storage after is that of `push`, whose every byte `peek_push` gives. -/
theorem pushesStoreOneByteBelow : Obligations.PushesStoreOneByteBelow := by
  intro i s v family
  refine ⟨(push v s).mem, peek_push v s, ?_⟩
  rcases family with ⟨rfl, rfl⟩ | ⟨rfl, rfl⟩
  · exact answers_of_exec_push rfl rfl
  · exact answers_of_exec_push rfl rfl

/-- Settles O31: both make the one read above S, which changes nothing else. -/
theorem pullsReadOneByteAbove : Obligations.PullsReadOneByteAbove := by
  intro s r
  have pulled : pull s = (r.1, { s with sp := s.sp + 1, ioTrace := r.2.ioTrace, draws := r.2.draws }) := by
    rw [pull_eq, memRead_frame]
    rfl
  have free : IoFree s → r.2.ioTrace = s.ioTrace := memRead_ioTrace_free _ s
  exact ⟨.of_unclaimed rfl (exec_pla_of_pull pulled) free, .of_unclaimed rfl (exec_plp_of_pull pulled) free⟩

/-- Settles O56: the byte pulled is the one pushed, and unpacking the flags undoes packing them. -/
theorem pullsUndoPushes : Obligations.PullsUndoPushes := by
  intro s acc f ram
  have two v : ((push v s).advance 1).pc + 1 = s.pc + 2 := by
    rw [advance_pc, push_pc]
    exact add_assoc s.pc 1 1
  have register : pull (((push s.a s).advance 1).setA acc) = (s.a, _) := pull_pushed ram rfl rfl rfl
  have flags : pull (((push (s.p.pack true) s).advance 1).setP f) = (s.p.pack true, _) := pull_pushed ram rfl rfl rfl
  exact ⟨⟨(push s.a s).advance 1, _, rfl, exec_pla_of_pull register, rfl, rfl, two s.a⟩,
    ⟨(push (s.p.pack true) s).advance 1, _, rfl, exec_plp_of_pull flags, Flags.unpack_pack s.p true, rfl, two (s.p.pack true)⟩⟩

end Sys2Proof
end

section
/-! PROOF. Interrupt and reset entries: what an entry does whole, which one a boundary takes, and BRK. -/

namespace Sys2Proof.Safety

open Sys2Proof.Machine

/-- The map alone decides whether an address is stored. -/
theorem Stored.congr {s t : State} {a : Addr} (h : Stored s a) (bus : t.bus = s.bus) : Stored t a := by
  rwa [Stored, State.kindAt_congr s t bus]

end Sys2Proof.Safety

namespace Sys2Proof.Machine

open Sys2Proof.Safety

/-! An entry. -/

/-- The byte a read answers and the values it draws depend on the map, storage and the draw counter alone. -/
theorem memRead_congr {s t : State} (bus : t.bus = s.bus) (mem : t.mem = s.mem) (draws : t.draws = s.draws) (a : Addr) :
    (memRead a t).1 = (memRead a s).1 ∧ (memRead a t).2.draws = (memRead a s).2.draws := by
  have kind : t.kindAt a = s.kindAt a := State.kindAt_congr s t bus a
  have peek : t.peek a = s.peek a := State.peek_congr s t mem a
  rcases memRead_cases a s with ⟨k, e⟩ | ⟨k, e⟩ | ⟨k, e⟩
  · rw [e, memRead_stored a t (kind ▸ k)]
    exact ⟨peek, draws⟩
  · simp [memRead, kind, k, drawByte, draws]
  · simp [memRead, kind, k, drawByte, draws]

/-- As `memRead_congr`, for a 16-bit read. -/
theorem read16_congr {s t : State} (bus : t.bus = s.bus) (mem : t.mem = s.mem) (draws : t.draws = s.draws) (a : Addr) :
    (read16 a t).1 = (read16 a s).1 ∧ (read16 a t).2.draws = (read16 a s).2.draws := by
  obtain ⟨lo, drawn⟩ := memRead_congr bus mem draws a
  obtain ⟨hi, drawn'⟩ := memRead_congr (s := (memRead a s).2) (t := (memRead a t).2) (by simp [bus]) (by simp [mem]) drawn (a + 1)
  exact ⟨by simp only [read16, lo, hi], drawn'⟩

/-- The three pushes of an entry leave what `entryPushes` lists (60_exceptions.md R306). -/
theorem peek_push_pushAddr (ret : Addr) (brk : Bool) (s : State) (b : Addr) :
    (push (s.p.pack brk) (pushAddr ret s)).peek b = peekAfterWrites s (entryPushes ret brk s) b := by
  have sp : (pushAddr ret s).sp = s.sp - 2 := by rw [pushAddr_frame]
  rw [peek_push, peek_pushAddr, sp, State.kindAt_congr s _ (pushAddr_bus ret s)]
  rfl

/-- The state of an entry when it reads its vector: the three bytes pushed and I set (60_exceptions.md R306). -/
def pushedAndMasked (ret : Addr) (brk : Bool) (s : State) : State :=
  (push (s.p.pack brk) (pushAddr ret s)).setP { (push (s.p.pack brk) (pushAddr ret s)).p with i := true }

theorem enterInterrupt_eq (ret : Addr) (brk : Bool) (vector : Addr) (s : State) :
    enterInterrupt ret brk vector s =
      (read16 vector (pushedAndMasked ret brk s)).2.setPc (read16 vector (pushedAndMasked ret brk s)).1 := rfl

/-- The pushes and I: besides them only the `io` trace changes. -/
theorem pushedAndMasked_frame (ret : Addr) (brk : Bool) (s : State) :
    pushedAndMasked ret brk s = { s with
      sp := s.sp - 3
      p := { s.p with i := true }
      mem := (pushedAndMasked ret brk s).mem
      ioTrace := (pushedAndMasked ret brk s).ioTrace } := by
  apply State.ext <;> simp [pushedAndMasked, sub_sub]

theorem pushedAndMasked_ioTrace_free (ret : Addr) (brk : Bool) (s : State) (h : IoFree s) :
    (pushedAndMasked ret brk s).ioTrace = s.ioTrace :=
  (push_ioTrace_free _ _ (h.congr (pushAddr_bus ret s))).trans (pushAddr_ioTrace_free ret s h)

/-- Taking an exception has the effect of an entry: the vector read does not depend on the trace of the pushes. -/
theorem entryEffect_enterInterrupt (ret : Addr) (brk : Bool) (vector : Addr) (s : State) :
    EntryEffect ret brk vector s (enterInterrupt ret brk vector s) := by
  have frame := pushedAndMasked_frame ret brk s
  have bus : (pushedAndMasked ret brk s).bus = s.bus := by rw [frame]
  obtain ⟨target, drawn⟩ := read16_congr (s := { pushedAndMasked ret brk s with ioTrace := s.ioTrace })
    (t := pushedAndMasked ret brk s) rfl rfl rfl vector
  refine ⟨{ pushedAndMasked ret brk s with ioTrace := s.ioTrace }, peek_push_pushAddr ret brk s, ?_, ?_, fun free => ?_⟩
  · rw [frame]
  · rw [enterInterrupt_eq, ← target, ← drawn]
    apply State.ext <;> simp
  · rw [enterInterrupt_eq, State.setPc_ioTrace, read16_ioTrace_free _ _ (free.congr bus), pushedAndMasked_ioTrace_free _ _ _ free]

/-! The boundary's choice. -/

/-- What a step does once its boundary has decided (60_exceptions.md R317). -/
def Event.run : Event → State → Host.Outcome State Fault Refusal
  | .reset, u => .next (resetEntry u)
  | .nmi, u => .next (nmiEntry u)
  | .irq, u => .next (irqEntry u)
  | .instruction, u => executeInstruction u

theorem step_of_boundary {s u : State} {ev : Event} (h : boundary s = (ev, u)) : step s = ev.run u := by
  rw [step, runStep, h]
  cases ev with
  | reset | nmi | irq | instruction => rfl

/-- A boundary changes what it takes from the environment, the latch and the record of the previous instruction. -/
theorem boundary_setNmiPending_frame (s : State) :
    (boundary s).2.setNmiPending false =
      { s with env := s.env.tail, iBefore := none, nmiPending := false, draws := (boundary s).2.draws } := by
  apply State.ext <;> simp

/-- With the I before not recorded, I itself is polled (60_exceptions.md R304). -/
theorem iPoll_of_none {s : State} (h : s.iBefore = none) : iPoll s = (s.p.i, s) := by
  rw [iPoll, h]

/-- With the I before recorded, a free bit decides between it and I (60_exceptions.md R304, U10). -/
theorem iPoll_of_some {s : State} {before : Bool} (h : s.iBefore = some before) :
    iPoll s = (if Config.freeBit s.draws then before else s.p.i, s.setDraws (s.draws + 1)) := by
  rw [iPoll, h]
  rfl

/-- A listed boundary with no reset and no NMI: the step is the IRQ entry or the instruction, as the line and the polled I say
(60_exceptions.md R304). -/
theorem boundary_of_listed {s : State} {rest : List Inputs} {e : Inputs} (listed : s.env = e :: rest) (edge : e.nmiEdge = false)
    (reset : e.resetLine = false) (latched : s.nmiPending = false) :
    boundary s =
      if e.irqLine then
        (if (iPoll (s.setEnv rest)).1 then .instruction else .irq, (iPoll (s.setEnv rest)).2.setIBefore none)
      else (.instruction, (s.setEnv rest).setIBefore none) := by
  have taken : takeInputs s = (e, s.setEnv rest) := by rw [takeInputs, listed]
  have inputs : s.inputs = e := congrArg Prod.fst taken
  have latch : latchInputs s = s.setEnv rest := by
    rw [latchInputs, taken, inputs, latched, edge]
    apply State.ext <;> simp [latched]
  rw [boundary, inputs, latch, decideEvent, reset, State.setEnv_nmiPending, latched]
  cases e.irqLine with
  | true | false => rfl

/-- With the I before not recorded and the line high, a listed boundary takes the IRQ entry exactly where I is clear. -/
theorem boundary_of_irq {s : State} {rest : List Inputs} {e : Inputs} (listed : s.env = e :: rest) (irq : e.irqLine = true)
    (edge : e.nmiEdge = false) (reset : e.resetLine = false) (latched : s.nmiPending = false) (before : s.iBefore = none) :
    boundary s = (if s.p.i then .instruction else .irq, { s with env := rest, iBefore := none }) := by
  rw [boundary_of_listed listed edge reset latched, if_pos irq, iPoll_of_none (s := s.setEnv rest) before]
  rfl

end Sys2Proof.Machine

namespace Sys2Proof

open Sys2Proof.Machine Sys2Proof.Safety

/-- Settles O36: BRK is an entry, of the address two further and with the break mark. -/
theorem brkEntersThroughTheIrqVector : Obligations.BrkEntersThroughTheIrqVector := fun s =>
  ⟨enterInterrupt (s.pc + 2) true irqVector s, rfl, entryEffect_enterInterrupt _ _ _ s⟩

/-- Settles O39: with I clear and nothing recorded the boundary takes the IRQ entry. -/
theorem enabledIrqIsEntered : Obligations.EnabledIrqIsEntered := by
  intro s rest e listed irq edge reset latched before clear
  have decided := boundary_of_irq listed irq edge reset latched before
  have state : { s with env := rest, iBefore := none } = { s with env := rest } := by rw [before]
  rw [clear, state] at decided
  exact ⟨irqEntry { s with env := rest }, step_of_boundary decided, entryEffect_enterInterrupt _ _ _ _⟩

/-- Settles O40: with the line low the polled I is not asked for, and with I set it refuses the line; neither way is a value drawn. -/
theorem maskedIrqIsForgotten : Obligations.MaskedIrqIsForgotten := by
  intro s rest e listed edge reset latched masked
  suffices decided : boundary s = (.instruction, { s with env := rest, iBefore := none }) from step_of_boundary decided
  cases irq : e.irqLine with
  | false =>
    rw [boundary_of_listed listed edge reset latched, irq]
    rfl
  | true =>
    obtain ⟨before, set⟩ : s.iBefore = none ∧ s.p.i = true := by simpa [irq] using masked
    rw [boundary_of_irq listed irq edge reset latched before, set]
    rfl

/-- Settles O41: the free bit chooses between two values of I, and where they agree it does not matter. -/
theorem pollAfterCliSeiPlpUsesEitherI : Obligations.PollAfterCliSeiPlpUsesEitherI := by
  intro s rest e before listed irq edge reset latched recorded
  have decided := boundary_of_listed listed edge reset latched
  rw [if_pos irq, iPoll_of_some (s := s.setEnv rest) recorded] at decided
  generalize poll : (if Config.freeBit (s.setEnv rest).draws then before else (s.setEnv rest).p.i) = polled at decided
  refine ⟨{ s with env := rest, iBefore := none, draws := s.draws + 1 }, irqEntry _, rfl, entryEffect_enterInterrupt _ _ _ _, ?_⟩
  have run := step_of_boundary decided
  cases polled with
  | false => exact ⟨.inl run, fun _ _ => run, fun old new => by simp [old, new] at poll⟩
  | true => exact ⟨.inr run, fun old new => by simp [old, new] at poll, fun _ _ => run⟩

/-- Settles O42: with no reset the latch, old or new, decides, and the entry clears it. -/
theorem nmiIsEnteredWhateverIHolds : Obligations.NmiIsEnteredWhateverIHolds := by
  intro s reset requested
  have event : (boundary s).1 = .nmi := by simp [boundary_event, reset, requested]
  have decided : boundary s = (.nmi, (boundary s).2) := Prod.ext event rfl
  refine ⟨(boundary s).2.setNmiPending false, nmiEntry (boundary s).2, boundary_setNmiPending_frame s, step_of_boundary decided, ?_⟩
  rw [← boundary_pc s]
  exact entryEffect_enterInterrupt _ _ _ _

/-- Settles O43: the reset line is looked at first, and the entry writes neither storage nor the map. -/
theorem resetGoesFirstAndKeepsStorage : Obligations.ResetGoesFirstAndKeepsStorage := by
  intro s reset
  have event : (boundary s).1 = .reset := by rw [boundary_event, if_pos reset]
  have decided : boundary s = (.reset, (boundary s).2) := Prod.ext event rfl
  have run : step s = .next (resetEntry (boundary s).2) := step_of_boundary decided
  obtain ⟨-, -, -, -, free⟩ := stepTakesInputsAndExtendsTheTrace s _ run
  refine ⟨(boundary s).2.setNmiPending false, resetEntry (boundary s).2, boundary_setNmiPending_frame s, run, resetEntry_i _,
    resetEntry_nmiPending _, rfl, fun lo hi => ?_, by simp, by simp, by simp, by simp, by simp, free⟩
  have bus : ((boundary s).2.setNmiPending false).bus = s.bus := boundary_bus s
  have peek a : ((boundary s).2.setNmiPending false).peek a = s.peek a := State.peek_congr s _ (boundary_mem s) a
  have vector := read16_stored (a := 0xFFFC#16) (lo.congr bus) (hi.congr bus)
  rw [peek, peek] at vector
  exact congrArg Prod.fst vector

end Sys2Proof
end

section
/-! PROOF. The times of the branches and of the indexed reads, and of all others (informative in the spec). -/

namespace Sys2Proof.Machine

/-- Adding an index leaves the page of the base exactly where the sum of the low bytes carries (70_reset_and_hazards.md R351). -/
theorem crossesPage_add_zext16 (a : Addr) (x : Byte) :
    crossesPage (a + zext16 x) a = decide (256 ≤ a.toNat % 256 + x.toNat) := by
  have low := a.isLt
  have index := x.isLt
  have page : hiByte (a + zext16 x) = hiByte a ↔ ¬ 256 ≤ a.toNat % 256 + x.toNat := by
    rw [← BitVec.toNat_inj, hiByte_toNat, hiByte_toNat, BitVec.toNat_add, zext16_toNat]
    omega
  exact decide_eq_decide.mpr (by rw [ne_eq, page, not_not])

/-! The cycles of the three kinds of row. -/

section
variable {i : Instr} (s : State)

/-- The time of a reading instruction with a memory operand, and one more where its index leaves the page. -/
theorem cycles_of_read {m : MemMode} (cls : accessClass i.mnemonic = .read) (op : i.operand = .mem m) :
    cycles i s = readTime m.mode + (indexCrosses m s).toNat := by
  have mode : i.mode = m.mode := congrArg Operand.mode op
  simp only [cycles, cls, op, instrTime, mode]

theorem cycles_of_read_abx {a : Addr} (cls : accessClass i.mnemonic = .read) (op : i.operand = .mem (.abx a)) :
    cycles i s = if 256 ≤ a.toNat % 256 + s.x.toNat then 5 else 4 := by
  rw [cycles_of_read s cls op, indexCrosses, crossesPage_add_zext16]
  split_ifs with carry <;> simp [carry, readTime, MemMode.mode]

theorem cycles_of_read_aby {a : Addr} (cls : accessClass i.mnemonic = .read) (op : i.operand = .mem (.aby a)) :
    cycles i s = if 256 ≤ a.toNat % 256 + s.y.toNat then 5 else 4 := by
  rw [cycles_of_read s cls op, indexCrosses, crossesPage_add_zext16]
  split_ifs with carry <;> simp [carry, readTime, MemMode.mode]

theorem cycles_of_read_izy {n : Byte} (cls : accessClass i.mnemonic = .read) (op : i.operand = .mem (.izy n)) :
    cycles i s = if 256 ≤ (memRead (zeroPage n) s).1.toNat + s.y.toNat then 6 else 5 := by
  have low : (read16zp n s).1.toNat % 256 = (memRead (zeroPage n) s).1.toNat := by
    rw [← loByte_toNat, read16zp, loByte_mkAddr]
  rw [cycles_of_read s cls op, indexCrosses, crossesPage_add_zext16, low]
  split_ifs with carry <;> simp [carry, readTime, MemMode.mode]

/-- The time of a branch: by whether it is taken, and to another page than the next instruction's (70_reset_and_hazards.md R352). -/
theorem cycles_of_branch {d : Byte} (cls : accessClass i.mnemonic = .branch) (op : i.operand = .rel d) :
    cycles i s =
      if branchCondition i.mnemonic s.p then (if hiByte (s.pc + 2 + sext16 d) = hiByte (s.pc + 2) then 3 else 4) else 2 := by
  simp only [cycles, cls, op]
  split_ifs with taken page
  · simp only [crossesPage, branchTarget, page, ne_eq, not_true_eq_false, decide_false, Bool.toNat_false]
  · simp only [crossesPage, branchTarget, page, ne_eq, not_false_eq_true, decide_true, Bool.toNat_true]
  · rfl

/-- Outside the reads and the branches the time is the table's. -/
theorem cycles_of_other_class (read : accessClass i.mnemonic ≠ .read) (branch : accessClass i.mnemonic ≠ .branch) :
    cycles i s = instrTime i := by
  unfold cycles
  split
  · next cls _ => exact absurd cls read
  · next cls _ => exact absurd cls branch
  · rfl

/-- In the modes that carry neither note the time is the table's. -/
theorem cycles_of_other_mode (mode : i.mode ∉ [Mode.rel, .abx, .aby, .izy]) : cycles i s = instrTime i := by
  unfold cycles
  split
  · next m _ op =>
    have same : i.mode = m.mode := congrArg Operand.mode op
    cases m with
    | abx _ | aby _ | izy _ => simp [same, MemMode.mode] at mode
    | zp _ | zpx _ | zpy _ | abs _ | izx _ => rfl
  · next d _ op =>
    have same : i.mode = .rel := congrArg Operand.mode op
    simp [same] at mode
  · rfl

end

end Sys2Proof.Machine

namespace Sys2Proof

open Sys2Proof.Machine

/-- Settles O58: each listed row is a branch or a read in the mode of its note. -/
theorem cyclesFollowTheNotes : Obligations.CyclesFollowTheNotes := by
  intro s d n a
  refine ⟨?branches, ?abx, ?aby, ?izy, fun i => cycles_of_other_mode s, fun i => cycles_of_other_class s, ?named⟩
  case branches =>
    intro r row
    fin_cases row <;> exact cycles_of_branch s rfl rfl
  case abx =>
    intro i row
    fin_cases row <;> exact cycles_of_read_abx s rfl rfl
  case aby =>
    intro i row
    fin_cases row <;> exact cycles_of_read_aby s rfl rfl
  case izy =>
    intro i row
    fin_cases row <;> exact cycles_of_read_izy s rfl rfl
  case named => exact ⟨rfl, rfl, rfl, rfl, rfl, rfl, rfl⟩

end Sys2Proof
end

section
/-! PROOF. A run the harness ends. -/

namespace Sys2Proof.Safety

open Sys2Proof.Machine

/-- A run that is halted either was so at its start or made a step and was halted after it. -/
theorem runUntil_halted_cases {halt : State → Bool} {fuel : Nat} {s t : State} (h : runUntil halt fuel s = .halted t) :
    (halt s = true ∧ t = s) ∨ ∃ k u, fuel = k + 1 ∧ step s = .next u ∧ runUntil halt k u = .halted t := by
  unfold runUntil at h
  split at h
  · next here => exact .inl ⟨here, (RunEnd.halted.inj h).symm⟩
  · split at h
    · cases h
    · next k =>
      split at h
      · next u run => exact .inr ⟨k, u, rfl, run, h⟩
      · cases h

/-- A run is halted where the harness's predicate holds, and what every step keeps holds there if it held at the start. -/
theorem runUntil_halted {halt : State → Bool} {P : State → Prop} (keeps : ∀ s t, P s → step s = .next t → P t) {fuel : Nat}
    {s t : State} (h : runUntil halt fuel s = .halted t) : halt t = true ∧ (P s → P t) := by
  induction fuel generalizing s with
  | zero =>
    rcases runUntil_halted_cases h with ⟨here, rfl⟩ | ⟨_, _, fuel, -⟩
    · exact ⟨here, id⟩
    · cases fuel
  | succ k ih =>
    rcases runUntil_halted_cases h with ⟨here, rfl⟩ | ⟨_, u, fuel, run, later⟩
    · exact ⟨here, id⟩
    · cases fuel
      obtain ⟨there, kept⟩ := ih later
      exact ⟨there, fun start => kept (keeps s u start run)⟩

end Sys2Proof.Safety

namespace Sys2Proof

open Sys2Proof.Machine Sys2Proof.Safety

/-- Settles O59: by O46 every step of the run keeps the invariant. -/
theorem haltedRunsSatisfyTheHarness : Obligations.HaltedRunsSatisfyTheHarness :=
  fun _ _ _ _ h => runUntil_halted stepKeepsStorageCanonical h

end Sys2Proof
end
